-- ==== Sys2Proof/Word.lean ====
section
/-! DEFINITION. The words of the block: the widths the spec gives its registers and ports. -/

namespace Sys2Proof

/-- One line or one-bit register. 1 is high, 0 is low (00_scope.md R5). -/
abbrev Bit := BitVec 1

/-- A command word, `W_CMD` = 16 bits (00_scope.md R3, 30_encoding.md R50). -/
abbrev Word := BitVec 16

/-- The 24 bits of one sample, `W_SAMPLE` (00_scope.md R3, 10_state.md R12). -/
abbrev Sample := BitVec 24

/-- The response payload, `W_RSP` = 32 bits (00_scope.md R3, 30_encoding.md R51). -/
abbrev Payload := BitVec 32

end Sys2Proof
end

