-- ==== Sys2Proof/Syntax.lean ====
section
/-! DEFINITION. The six host commands: one constructor per row of spec/opcode_table.json (30_encoding.md R52). -/

namespace Sys2Proof

/-- A command of the block (30_encoding.md R52). -/
inductive Instr where
  /-- READ: `readRaw()` (41_protocol_reader.md R90). -/
  | read
  /-- SETGAIN `g`: `setGain(g)`; the operand is the gain NUMBER (30_encoding.md R53; 42_gain_select.md R100 to R102). -/
  | setgain (g : Nat)
  /-- GETGAIN: `getGain()` (42_gain_select.md R103). -/
  | getgain
  /-- PWRDN: `powerDown()` (43_power.md R110). -/
  | pwrdn
  /-- PWRUP: `powerUp()` (43_power.md R111). -/
  | pwrup
  /-- RESET: `reset()`, the device's power cycle (43_power.md R112), not the hardware reset. -/
  | reset
deriving DecidableEq, Repr

end Sys2Proof
end

