-- ==== Sys2Proof/WellFormed.lean ====
section
/-! DEFINITION. Which commands have an encoding. -/

namespace Sys2Proof

/-- SETGAIN's operand is a 12-bit number, 0 to 4095 (30_encoding.md R53); the other commands have no operand.
Every 12-bit operand is well formed, also an unsupported gain (60_exceptions.md R126). -/
def Instr.wellFormed : Instr → Bool
  | .read => true
  | .setgain g => decide (g < 4096)
  | .getgain => true
  | .pwrdn => true
  | .pwrup => true
  | .reset => true

/-- `wellFormed` as a proposition. -/
abbrev Instr.WellFormed (i : Instr) : Prop := i.wellFormed = true

end Sys2Proof
end

