-- ==== Sys2Proof/Decode.lean ====
section
/-! DEFINITION. The command word: its fields, the decoder, total on every 16-bit word and rejecting by name, the
encoder, and the reading of one row of spec/opcode_table.json (30_encoding.md R50 to R57). -/

namespace Sys2Proof

/-- `opc = cmd[15:12]` (30_encoding.md R50). -/
def opcField (cmd : Word) : BitVec 4 := cmd.extractLsb' 12 4

/-- `opnd = unsigned(cmd[11:0])` (30_encoding.md R50, R53). -/
def opndField (cmd : Word) : Nat := (cmd.extractLsb' 0 12).toNat

/-- The opcode of a command (30_encoding.md R52). -/
def Instr.opcode : Instr → BitVec 4
  | .read => 0x1
  | .setgain _ => 0x2
  | .getgain => 0x3
  | .pwrdn => 0x4
  | .pwrup => 0x5
  | .reset => 0x6

/-- The operand field of a command: the gain for SETGAIN, 0 otherwise (30_encoding.md R53, R57). -/
def Instr.operand : Instr → Nat
  | .read => 0
  | .setgain g => g
  | .getgain => 0
  | .pwrdn => 0
  | .pwrup => 0
  | .reset => 0

/-- Why a word encodes no command; the block answers each with IllegalCommand (30_encoding.md R56, R57). -/
inductive DecodeError where
  /-- Opcode 0x0 or 0x7 to 0xF (30_encoding.md R56). -/
  | reservedOpcode (opc : BitVec 4)
  /-- A no-operand command with a nonzero operand (30_encoding.md R57). -/
  | nonzeroOperand (opc : BitVec 4) (opnd : Nat)
deriving DecidableEq, Repr

/-- A command without operand: its operand field must be 0 (30_encoding.md R57). -/
def decodeBare (i : Instr) (opnd : Nat) : Except DecodeError Instr :=
  if opnd = 0 then .ok i else .error (.nonzeroOperand i.opcode opnd)

/-- The decoder (30_encoding.md R52, R53, R56, R57). The opcode is tested before the operand (60_exceptions.md R126). -/
def decode (cmd : Word) : Except DecodeError Instr :=
  if opcField cmd = 0x1 then decodeBare .read (opndField cmd)
  else if opcField cmd = 0x2 then .ok (.setgain (opndField cmd))
  else if opcField cmd = 0x3 then decodeBare .getgain (opndField cmd)
  else if opcField cmd = 0x4 then decodeBare .pwrdn (opndField cmd)
  else if opcField cmd = 0x5 then decodeBare .pwrup (opndField cmd)
  else if opcField cmd = 0x6 then decodeBare .reset (opndField cmd)
  else .error (.reservedOpcode (opcField cmd))

/-- The assembled word is `opc ++ opnd` (30_encoding.md R61). -/
def encode (i : Instr) : Word := i.opcode ++ BitVec.ofNat 12 i.operand

/-- One row of spec/opcode_table.json. -/
structure OpcodeRow where
  mnemonic : String
  mask : Word
  pattern : Word
deriving DecidableEq, Repr

/-- spec/opcode_table.json. -/
def opcodeTable : List OpcodeRow :=
  [ ⟨"READ", 0xFFFF, 0x1000⟩, ⟨"SETGAIN", 0xF000, 0x2000⟩, ⟨"GETGAIN", 0xFFFF, 0x3000⟩,
    ⟨"PWRDN", 0xFFFF, 0x4000⟩, ⟨"PWRUP", 0xFFFF, 0x5000⟩, ⟨"RESET", 0xFFFF, 0x6000⟩ ]

/-- A word is one of the row's. -/
def OpcodeRow.hit (r : OpcodeRow) (cmd : Word) : Bool := cmd &&& r.mask == r.pattern

/-- The row of a command. -/
def Instr.mnemonic : Instr → String
  | .read => "READ"
  | .setgain _ => "SETGAIN"
  | .getgain => "GETGAIN"
  | .pwrdn => "PWRDN"
  | .pwrup => "PWRUP"
  | .reset => "RESET"

/-- The 16-bit command word whose low `nbits` bits are those of `w` and whose other bits are 0 (log 12). -/
def tableWord (nbits w : Nat) : Word := BitVec.ofNat 16 (w % 2 ^ nbits)

/-- What the decoder reads from the table's word `w` of `nbits` bits. A command is one 16-bit word presented whole on
the port, so there is no byte order to lay it out in and no longer word (30_encoding.md R50; log 12). -/
def decodeTableWord (nbits w : Nat) : Option Instr :=
  if nbits ≤ 16 then (decode (tableWord nbits w)).toOption else none

end Sys2Proof
end

