-- ==== Sys2Proof/Config.lean ====
section
/-! DEFINITION. What an instantiation of the block fixes (00_scope.md R3, R4), and the free values: what the
outside world and an unspecified register may show. A free value has no body, so nothing can be proved of it. -/

namespace Sys2Proof

/-- The OPEN parameters of 00_scope.md R3. The spec makes them arguments of the model; no command writes them
(60_exceptions.md R130). `T_TICK` is `tickNum / tickDen` microseconds (log 4). -/
structure Params where
  /-- `POLL_LIMIT`: `none`, or the largest number of DIN samples one ready wait takes. -/
  pollLimit : Option Nat
  /-- `N_PDHOLD`: ticks the clock is held high by PWRDN and RESET. -/
  nPdhold : Nat
  /-- `N_SETTLE`: ticks of settle delay. -/
  nSettle : Nat
  /-- Numerator of `T_TICK` in microseconds. -/
  tickNum : Nat
  /-- Denominator of `T_TICK` in microseconds. -/
  tickDen : Nat
deriving DecidableEq, Repr

namespace Config

/-- `T_PD` = 60 µs (00_scope.md R3; the source's figure, unaudited: 93_implementation_defined.md U6). -/
def powerDownMicros : Nat := 60

/-- The settle delay, read as a lower bound of 0.4 s (00_scope.md R4(b), 92_eei_decisions.md D14), in µs. -/
def settleMicros : Nat := 400000

/-- The instantiation of 00_scope.md R4 and 92_eei_decisions.md D26: `T_TICK` = 1 µs, `N_PDHOLD` = 100,
`N_SETTLE` = 400000. DESIGN CHOICE (log 3): `POLL_LIMIT` = none, the reference behaviour of R3, since the spec
gives it no reference value (91_not_in_source.md N19). -/
def reference : Params :=
  { pollLimit := none, nPdhold := 100, nSettle := 400000, tickNum := 1, tickDen := 1 }

/-- FREE VALUE (log 2): the level of `rst` at tick `t` where the state lists none (40_sequencer.md R70). -/
opaque freeRst : Nat → Bit

/-- FREE VALUE (log 2): the level of `cmd_valid` at tick `t` where the state lists none. -/
opaque freeCmdValid : Nat → Bit

/-- FREE VALUE (log 2): the word on `cmd` at tick `t` where the state lists none. -/
opaque freeCmd : Nat → Word

/-- FREE VALUE (log 2): the oracle's answer on DIN at tick `t` where the state lists none (20_memory.md R32). -/
opaque freeDin : Nat → Bit

/-- FREE VALUE (log 5): SHR after a hardware reset at tick `t` (10_state.md R23, 93_implementation_defined.md V1). -/
opaque freeShr : Nat → Sample

/-- FREE VALUE (log 21): how much longer than one second the "few seconds" of idle bus are, in µs. The source does not
quantify them (20_memory.md R47, 91_not_in_source.md N12). -/
opaque idleBeyondSecond : Nat

/-- The "few seconds" of idle bus, in µs: at least one second, as the word says, and otherwise free (DEDUCED, log 21). -/
def idleMicros : Nat := 1000000 + idleBeyondSecond

end Config

namespace Params

/-- `n` ticks last at least `micros` microseconds: `n * T_TICK >= micros`. -/
abbrev lastsAtLeast (p : Params) (n micros : Nat) : Prop := micros * p.tickDen ≤ n * p.tickNum

/-- The ready wait may take `p` high samples and then a low one: `POLL_LIMIT` is none or `p < N`
(41_protocol_reader.md R96). -/
abbrev Allows (q : Params) (p : Nat) : Prop := ∀ n, q.pollLimit = some n → p < n

/-- Hazard: `n` ticks of idle bus last MORE than the unquantified "few seconds" (70_reset_and_hazards.md R146; log 21). -/
abbrev IdleTooLong (q : Params) (n : Nat) : Prop := Config.idleMicros * q.tickDen < n * q.tickNum

/-- The longest frame, 27 pulses of two ticks, ends under the power-down threshold: `54 * T_TICK < T_PD`
(00_scope.md R4(c), 70_reset_and_hazards.md R144). -/
abbrev FrameFits (q : Params) : Prop := 54 * q.tickNum < Config.powerDownMicros * q.tickDen

/-- The integer constraints of 00_scope.md R3: each count is at least 1. -/
structure WellFormed (p : Params) : Prop where
  poll : ∀ n, p.pollLimit = some n → 1 ≤ n
  hold : 1 ≤ p.nPdhold
  settle : 1 ≤ p.nSettle

/-- The real-time constraints of 00_scope.md R4 beside those of R3. -/
structure Conforms (p : Params) : Prop where
  counts : p.WellFormed
  tick : 0 < p.tickNum ∧ 0 < p.tickDen
  /-- R4(a): `N_PDHOLD * T_TICK >= 60 µs`. -/
  hold : p.lastsAtLeast p.nPdhold Config.powerDownMicros
  /-- R4(b): `N_SETTLE * T_TICK >= 0.4 s`. -/
  settle : p.lastsAtLeast p.nSettle Config.settleMicros
  /-- R4(c): `54 * T_TICK < T_PD`. -/
  frame : p.FrameFits

end Params

end Sys2Proof
end

