-- ==== Sys2Proof/Machine/State.lean ====
section
/-! DEFINITION. The state of the block (10_state.md R10), its configuration, the inputs still to come, the reset
state (R23), and the reasons a step can stop. -/

namespace Sys2Proof.Machine

/-- The sequencer position PH (10_state.md R14). The spec lets a model use an enumeration; the values 10 to 15 of the
4-bit register are never held and do not exist here (93_implementation_defined.md V4; log 6). -/
inductive Phase where
  | idle | wait | bitH | bitL | plsH | plsL | dec | settle | pdRise | pdHold
deriving DecidableEq, Repr

/-- What the host drives in one tick: the inputs `rst`, `cmd_valid`, `cmd` (00_scope.md R6). -/
structure HostInput where
  rst : Bit
  cmdValid : Bit
  cmd : Word
deriving DecidableEq, Repr

/-- The whole state of the block (10_state.md R10), then its configuration (00_scope.md R3), then the model's own
fields: the tick count and what the host and the device drive in the ticks to come (log 2). -/
structure State where
  /-- SCK, the level driven on the clock line (R11). -/
  sck : Bit
  /-- SHR, the serial-in shift register (R12). -/
  shr : Sample
  /-- RSP_DATA, the response payload (R19). -/
  rspData : Payload
  /-- SEL, the armed selection, held as its trailing-pulse count (R13). -/
  sel : BitVec 2
  /-- PH, the phase of the sequencer (R14). -/
  ph : Phase
  /-- BITCNT, data bits still to shift in this frame (R16). -/
  bitcnt : BitVec 5
  /-- PLSCNT, trailing pulses still to emit in this frame (R16). -/
  plscnt : BitVec 2
  /-- OP, the command in progress (R15). -/
  op : BitVec 3
  /-- POLLCNT, DIN samples taken high in the current ready wait (R17). -/
  pollcnt : Nat
  /-- DLYCNT, ticks remaining of the current delay (R18). -/
  dlycnt : Nat
  /-- RSP_VALID, a response is present (R19). -/
  rspValid : Bit
  /-- RSP_ST, the status code of the response (R19). -/
  rspSt : BitVec 4
  /-- The parameters the block was built with (00_scope.md R3); written by no step (log 3). -/
  params : Params
  /-- The model's own: the tick number `t` (00_scope.md R6), the argument of the free values. -/
  now : Nat
  /-- The model's own: the host's inputs of the coming ticks, this tick's first; free where it ends (log 2). -/
  host : List HostInput
  /-- The model's own: the DIN level of the coming ticks, this tick's first; free where it ends (log 2). -/
  din : List Bit
deriving DecidableEq, Repr

/-- The reasons a step can fault. There is none: no rule of the spec stops the machine, and its errors are responses
(60_exceptions.md R127). Safe (log 14). -/
inductive Fault
deriving DecidableEq, Repr

/-- The reasons a step is refused. -/
inductive Refusal where
  /-- Raised by an arm of `exec` whose instruction has no meaning yet; safe. No arm raises it now. -/
  | notModelled (mnemonic : String)
  /-- Raised by GETGAIN where SEL = 0b00, for which `gain_of` is not defined; unreachable
  (30_encoding.md R55, 93_implementation_defined.md V2); safe (log 7). -/
  | noGainArmed
  /-- Raised by phase DEC where OP is not READ's or SETGAIN's; unreachable
  (40_sequencer.md R78, 93_implementation_defined.md V3); safe (log 8). -/
  | noFrameOwner (op : BitVec 3)
  /-- Raised by the last tick of PD_HOLD where OP is not PWRDN's or RESET's; unreachable
  (40_sequencer.md R81, 93_implementation_defined.md V3); safe (log 8). -/
  | noHoldOwner (op : BitVec 3)
deriving DecidableEq, Repr

/-- The reset state (10_state.md R23): SEL = 0b01 and every other register 0. DESIGN CHOICE: SHR, which R23 leaves
unspecified, is 0 here (log 5); the configuration is the reference one (log 3); no input is listed (log 2). -/
def State.reset : State :=
  { sck := 0, shr := 0, rspData := 0, sel := 0b01, ph := .idle, bitcnt := 0, plscnt := 0, op := 0,
    pollcnt := 0, dlycnt := 0, rspValid := 0, rspSt := 0,
    params := Config.reference, now := 0, host := [], din := [] }

end Sys2Proof.Machine
end

