-- ==== Sys2Proof/Machine/Flags.lean ====
section
/-! DEFINITION. The flags and status outputs (10_state.md R19, R20; 30_encoding.md R51, R58): status codes, `busy`,
the output ports. The block has no condition codes (R20). -/

namespace Sys2Proof.Machine

/-- The status names of 30_encoding.md R58. DivideByZero and HardwareIoError only keep their numbers: no rule of the
block produces them (60_exceptions.md R124). -/
inductive Status where
  | ok | timeout | invalidGain | divideByZero | hardwareIoError | illegalCommand
deriving DecidableEq, Repr

/-- The code of a status in `rsp_st` (30_encoding.md R58). -/
def Status.code : Status → BitVec 4
  | .ok => 0
  | .timeout => 1
  | .invalidGain => 2
  | .divideByZero => 3
  | .hardwareIoError => 4
  | .illegalCommand => 5

/-- The errors the block can raise (60_exceptions.md R120). -/
inductive BlockError where
  | timeout | invalidGain | illegalCommand
deriving DecidableEq, Repr

/-- The status an error is reported with (60_exceptions.md R120). -/
def BlockError.status : BlockError → Status
  | .timeout => .timeout
  | .invalidGain => .invalidGain
  | .illegalCommand => .illegalCommand

/-- `busy = (PH != IDLE)`, derived and not a register (10_state.md R20). -/
def State.busy (s : State) : Bit := if s.ph = .idle then 0 else 1

/-- The output ports (92_eei_decisions.md D1). -/
structure Outputs where
  sck : Bit
  busy : Bit
  rspValid : Bit
  rspSt : BitVec 4
  rspData : Payload
deriving DecidableEq, Repr

/-- What the output pins show between ticks: the registers (00_scope.md R6). -/
def State.outputs (s : State) : Outputs :=
  { sck := s.sck, busy := s.busy, rspValid := s.rspValid, rspSt := s.rspSt, rspData := s.rspData }

end Sys2Proof.Machine
end

