-- ==== Sys2Proof/Machine/Ops.lean ====
section
/-! DEFINITION. The operations every command is made of: the inputs of a tick, the pin accesses, the response, raising
an error (the one shared operation of 60_exceptions.md R127), delays, the hardware reset. -/

namespace Sys2Proof.Machine

/-- What the host drives `k` ticks from now: listed in the state, or free (log 2). -/
def State.hostAt (s : State) (k : Nat) : HostInput :=
  s.host.getD k
    { rst := Config.freeRst (s.now + k), cmdValid := Config.freeCmdValid (s.now + k), cmd := Config.freeCmd (s.now + k) }

/-- The DIN level `k` ticks from now: listed in the state, or a free oracle answer (20_memory.md R32; log 2). -/
def State.dinAt (s : State) (k : Nat) : Bit := s.din.getD k (Config.freeDin (s.now + k))

/-- `PinRead(DIN)`: the one bit on DIN at this tick (20_memory.md R32). -/
def State.pinReadDin (s : State) : Bit := s.dinAt 0

/-- This tick's inputs are past: the next tick sees the next ones (00_scope.md R6). No register changes. -/
def State.advance (s : State) : State := { s with now := s.now + 1, host := s.host.tail, din := s.din.tail }

/-- `PinWrite(SCK, b)`, the block's only store (20_memory.md R31). -/
def State.pinWriteSck (s : State) (b : Bit) : State := { s with sck := b }

/-- `PH <- p`, the block's control transfer (10_state.md R14). -/
def State.goTo (s : State) (p : Phase) : State := { s with ph := p }

/-- `RSP_VALID <- 0`, the first assignment of every accept tick (40_sequencer.md R71). -/
def State.dropResponse (s : State) : State := { s with rspValid := 0 }

/-- `respond(st, data)` (40_sequencer.md R72). -/
def State.respond (s : State) (st : Status) (data : Payload) : State :=
  { s with rspValid := 1, rspSt := st.code, rspData := data }

/-- `raise E` is `respond(code(E), 0); PH <- IDLE` (60_exceptions.md R127). It saves nothing, changes no mode and has no
handler; there is no return from it: the next command is accepted at once (R128). -/
def State.raise (s : State) (e : BlockError) : State := (s.respond e.status 0).goTo .idle

/-- A command's last tick: it responds and goes to IDLE (40_sequencer.md R72). -/
def State.finish (s : State) (data : Payload) : State := (s.respond .ok data).goTo .idle

/-- `OP <- n` (10_state.md R15). -/
def State.own (s : State) (n : BitVec 3) : State := { s with op := n }

/-- `POLLCNT <- 0; PH <- WAIT`: a ready wait begins (40_sequencer.md R71). -/
def State.beginWait (s : State) : State := { s with pollcnt := 0, ph := .wait }

/-- `DLYCNT <- N_SETTLE; PH <- SETTLE`: the settle delay begins (40_sequencer.md R71, R78, R81). -/
def State.beginSettle (s : State) : State := { s with dlycnt := s.params.nSettle, ph := .settle }

/-- `DLYCNT <- N_PDHOLD; PH <- PD_HOLD`: the power-down hold begins (40_sequencer.md R80). -/
def State.beginHold (s : State) : State := { s with dlycnt := s.params.nPdhold, ph := .pdHold }

/-- `DLYCNT <- DLYCNT - 1`, the ticks of SETTLE and PD_HOLD but the last (40_sequencer.md R79, R81). -/
def State.countDelay (s : State) : State := { s with dlycnt := s.dlycnt - 1 }

/-- `SHR <- SHR[22:0] ++ d` (10_state.md R12). -/
def shiftIn (shr : Sample) (d : Bit) : Sample := shr.extractLsb' 0 23 ++ d

/-- A tick with `rst = 1`: the reset state of 10_state.md R23 whatever the state was (70_reset_and_hazards.md R140).
SHR is unspecified and becomes a free value (log 5); the configuration and the inputs to come are no registers and stay. -/
def State.hardReset (s : State) : State :=
  { State.reset with shr := Config.freeShr s.now, params := s.params, now := s.now, host := s.host, din := s.din }

/-- The state in which the very next tick is the accept tick of the word `cmd`: PH is IDLE and the host presents the
word with `rst = 0` (20_memory.md R41). Nothing else changes (log 11). -/
def State.presentWord (s : State) (cmd : Word) : State :=
  { s with ph := .idle, host := { rst := 0, cmdValid := 1, cmd := cmd } :: s.host.tail }

end Sys2Proof.Machine
end

