-- ==== Sys2Proof/Machine/Operands.lean ====
section
/-! DEFINITION. The operand of SETGAIN and the selection tables (30_encoding.md R53, R54, R55), the opcodes OP holds
(10_state.md R15), and the sample's decoding (41_protocol_reader.md R94). -/

namespace Sys2Proof.Machine

/-- `sel_of(g)`, defined for the three legal gains only (30_encoding.md R54). -/
def selOf (g : Nat) : Option (BitVec 2) :=
  if g = 128 then some 0b01 else if g = 32 then some 0b10 else if g = 64 then some 0b11 else none

/-- `gain_of(sel)`, not defined for 0b00 (30_encoding.md R55). -/
def gainOf (sel : BitVec 2) : Option Nat :=
  if sel = 0b01 then some 128 else if sel = 0b10 then some 32 else if sel = 0b11 then some 64 else none

/-- `pulses(sel) = unsigned(sel)`: SEL stores the pulse count (30_encoding.md R54). -/
def pulses (sel : BitVec 2) : Nat := sel.toNat

/-- The two physical inputs and their amplifications: the GainChannel a selection stands for (10_state.md R13). -/
inductive GainChannel where
  | a128 | b32 | a64
deriving DecidableEq, Repr

/-- The GainChannel of a value of SEL (10_state.md R13). -/
def channelOf (sel : BitVec 2) : Option GainChannel :=
  if sel = 0b01 then some .a128 else if sel = 0b10 then some .b32 else if sel = 0b11 then some .a64 else none

/-- OP while READ runs (10_state.md R15). -/
def opRead : BitVec 3 := 1
/-- OP while SETGAIN runs (10_state.md R15). -/
def opSetgain : BitVec 3 := 2
/-- OP while PWRDN runs (10_state.md R15). -/
def opPwrdn : BitVec 3 := 4
/-- OP while PWRUP runs (10_state.md R15). -/
def opPwrup : BitVec 3 := 5
/-- OP while RESET runs (10_state.md R15). -/
def opReset : BitVec 3 := 6

/-- `decode24(v)` by the source's own steps: invert, read as unsigned, add 1, negate (41_protocol_reader.md R94). -/
def decode24 (v : Sample) : Int := if v.msb then -(((~~~v).toNat : Int) + 1) else (v.toNat : Int)

/-- `sext_32(SHR)`, the response's form of the sample (30_encoding.md R60, 41_protocol_reader.md R94). -/
def sext32 (v : Sample) : Payload := v.signExtend 32

/-- `zext_32(g)`, GETGAIN's form of the gain (42_gain_select.md R103). -/
def zext32 (g : Nat) : Payload := BitVec.ofNat 32 g

end Sys2Proof.Machine
end

