-- ==== Sys2Proof/Machine/Gain.lean ====
section
/-! DEFINITION. The Gain/Channel Selector: SETGAIN's and GETGAIN's accept ticks (40_sequencer.md R71; 42_gain_select.md). -/

namespace Sys2Proof.Machine

/-- SETGAIN's accept tick (40_sequencer.md R71). A supported gain is armed, the clock forced low and the throwaway read
begun (42_gain_select.md R100); any other gain raises InvalidGain and changes nothing else (R101). -/
def execSetgain (g : Nat) (s : State) : Host.Outcome State Fault Refusal :=
  match selOf g with
  | some sel => .next (({ s.dropResponse with sel := sel }.pinWriteSck 0).own opSetgain).beginWait
  | none => .next (s.dropResponse.raise .invalidGain)

/-- GETGAIN answers the armed gain in its accept tick; no pin is touched (42_gain_select.md R103). SEL = 0b00 is
unreachable and refused, as 30_encoding.md R55 asks (log 7). -/
def execGetgain (s : State) : Host.Outcome State Fault Refusal :=
  match gainOf s.sel with
  | some g => .next (s.dropResponse.respond .ok (zext32 g))
  | none => .refused .noGainArmed

end Sys2Proof.Machine
end

