-- ==== Sys2Proof/Machine/Power.lean ====
section
/-! DEFINITION. The Power Controller: the accept ticks of PWRDN, PWRUP and RESET and the phases PD_RISE, PD_HOLD, SETTLE
(40_sequencer.md R71, R79 to R81; 43_power.md). -/

namespace Sys2Proof.Machine

/-- PWRDN's accept tick lowers the clock first (40_sequencer.md R71, 43_power.md R110). -/
def execPwrdn (s : State) : Host.Outcome State Fault Refusal :=
  .next (((s.dropResponse.own opPwrdn).pinWriteSck 0).goTo .pdRise)

/-- PWRUP's accept tick lowers the clock and starts the settle delay (40_sequencer.md R71, 43_power.md R111). -/
def execPwrup (s : State) : Host.Outcome State Fault Refusal :=
  .next ((s.dropResponse.own opPwrup).pinWriteSck 0).beginSettle

/-- RESET's accept tick is PWRDN's but for OP (40_sequencer.md R71, 43_power.md R112). It resets no register of the block. -/
def execReset (s : State) : Host.Outcome State Fault Refusal :=
  .next (((s.dropResponse.own opReset).pinWriteSck 0).goTo .pdRise)

/-- Phase PD_RISE makes the rising edge and starts the hold (40_sequencer.md R80). -/
def tickPdRise (s : State) : Host.Outcome State Fault Refusal := .next (s.pinWriteSck 1).beginHold

/-- Phase PD_HOLD keeps the clock high for `N_PDHOLD` ticks; then PWRDN responds and RESET lowers the clock and settles
(40_sequencer.md R81). Any other OP is unreachable and refused, as R81 asks (log 8). -/
def tickPdHold (s : State) : Host.Outcome State Fault Refusal :=
  if s.dlycnt ≤ 1 then
    if s.op = opPwrdn then .next (s.finish 0)
    else if s.op = opReset then .next (s.pinWriteSck 0).beginSettle
    else .refused (.noHoldOwner s.op)
  else .next s.countDelay

/-- Phase SETTLE counts `N_SETTLE` ticks and then responds (40_sequencer.md R79). -/
def tickSettle (s : State) : Host.Outcome State Fault Refusal :=
  if s.dlycnt ≤ 1 then .next (s.finish 0) else .next s.countDelay

end Sys2Proof.Machine
end

