-- ==== Sys2Proof/Machine/Reader.lean ====
section
/-! DEFINITION. The Protocol Reader: READ's accept tick and the phases of a frame, WAIT, BIT_H, BIT_L, PLS_H, PLS_L, DEC
(40_sequencer.md R71, R73 to R78; 41_protocol_reader.md). -/

namespace Sys2Proof.Machine

/-- READ's accept tick (40_sequencer.md R71, 41_protocol_reader.md R90): no pin is written. The ready wait, the frame and
the response follow in the phases below. -/
def execRead (s : State) : Host.Outcome State Fault Refusal :=
  .next (s.dropResponse.own opRead).beginWait

/-- `POLL_LIMIT = some N and POLLCNT + 1 >= N` (40_sequencer.md R73). -/
def State.pollLimitReached (s : State) : Bool :=
  match s.params.pollLimit with
  | none => false
  | some n => decide (n ≤ s.pollcnt + 1)

/-- Phase WAIT, the ready-line poller (40_sequencer.md R73): the ready test comes before the limit test. -/
def tickWait (s : State) (d : Bit) : Host.Outcome State Fault Refusal :=
  if d = 0 then .next { s with bitcnt := 24, ph := .bitH }
  else if s.pollLimitReached then .next (s.raise .timeout)
  else .next { s with pollcnt := s.pollcnt + 1 }

/-- Phase BIT_H raises the clock for a data bit (40_sequencer.md R74). -/
def tickBitH (s : State) : Host.Outcome State Fault Refusal := .next ((s.pinWriteSck 1).goTo .bitL)

/-- Phase BIT_L samples the data line and lowers the clock; the 24th bit loads PLSCNT from SEL (40_sequencer.md R75). -/
def tickBitL (s : State) (d : Bit) : Host.Outcome State Fault Refusal :=
  let t := { s.pinWriteSck 0 with shr := shiftIn s.shr d, bitcnt := s.bitcnt - 1 }
  if s.bitcnt = 1 then .next { t with plscnt := s.sel, ph := .plsH } else .next (t.goTo .bitH)

/-- Phase PLS_H raises the clock for a trailing pulse (40_sequencer.md R76). -/
def tickPlsH (s : State) : Host.Outcome State Fault Refusal := .next ((s.pinWriteSck 1).goTo .plsL)

/-- Phase PLS_L lowers the clock and counts the pulse (40_sequencer.md R77). -/
def tickPlsL (s : State) : Host.Outcome State Fault Refusal :=
  .next ({ s.pinWriteSck 0 with plscnt := s.plscnt - 1 }.goTo (if s.plscnt = 1 then .dec else .plsH))

/-- Phase DEC ends the frame: READ responds with the decoded sample, SETGAIN starts the settle delay
(40_sequencer.md R78). Any other OP is unreachable and refused, as R78 asks (log 8). -/
def tickDec (s : State) : Host.Outcome State Fault Refusal :=
  if s.op = opRead then .next (s.finish (sext32 s.shr))
  else if s.op = opSetgain then .next s.beginSettle
  else .refused (.noFrameOwner s.op)

end Sys2Proof.Machine
end

