-- ==== Sys2Proof/Machine/Dispatch.lean ====
section
/-! DEFINITION. One arm per command: the accept tick of 40_sequencer.md R71. The ticks after it are `tick`'s. -/

namespace Sys2Proof.Machine

def exec (i : Instr) (s : State) : Host.Outcome State Fault Refusal :=
  match i with
  | .read => Sys2Proof.Machine.execRead s
  | .setgain g => Sys2Proof.Machine.execSetgain g s
  | .getgain => Sys2Proof.Machine.execGetgain s
  | .pwrdn => Sys2Proof.Machine.execPwrdn s
  | .pwrup => Sys2Proof.Machine.execPwrup s
  | .reset => Sys2Proof.Machine.execReset s

end Sys2Proof.Machine
end

