-- ==== Sys2Proof/Machine/Tick.lean ====
section
/-! DEFINITION. The tick function of 40_sequencer.md R70: one transition of the sequencer. -/

namespace Sys2Proof.Machine

/-- Phase IDLE (40_sequencer.md R71): without a command nothing changes; a word that encodes a command is executed; any
other word raises IllegalCommand. -/
def tickIdle (s : State) (cmdValid : Bit) (cmd : Word) : Host.Outcome State Fault Refusal :=
  if cmdValid = 1 then
    match decode cmd with
    | .ok i => exec i s
    | .error _ => .next (s.dropResponse.raise .illegalCommand)
  else .next s

/-- `tick(s, rst, cmd_valid, cmd, din)` (40_sequencer.md R70). `rst` precedes everything (60_exceptions.md R126);
`cmd_valid` and `cmd` are read in IDLE only (R84), DIN in WAIT and BIT_L only (20_memory.md R32). -/
def tick (s : State) (rst cmdValid : Bit) (cmd : Word) (din : Bit) : Host.Outcome State Fault Refusal :=
  if rst = 1 then .next s.hardReset
  else
    match s.ph with
    | .idle => tickIdle s cmdValid cmd
    | .wait => tickWait s din
    | .bitH => tickBitH s
    | .bitL => tickBitL s din
    | .plsH => tickPlsH s
    | .plsL => tickPlsL s
    | .dec => tickDec s
    | .settle => tickSettle s
    | .pdRise => tickPdRise s
    | .pdHold => tickPdHold s

end Sys2Proof.Machine
end

