-- ==== Sys2Proof/Machine/Step.lean ====
section
/-! DEFINITION. One step is one tick (00_scope.md R6; log 1): it samples this tick's inputs and applies the tick function. -/

namespace Sys2Proof.Machine

/-- `s_(t+1) = tick(s_t, rst_t, cmd_valid_t, cmd_t, din_t)` (00_scope.md R6), the inputs of tick `t` then being past. -/
def step (s : State) : Host.Outcome State Fault Refusal :=
  tick s.advance (s.hostAt 0).rst (s.hostAt 0).cmdValid (s.hostAt 0).cmd s.pinReadDin

/-- The state in which the next step is the accept tick of the table's word `w`: the host presents it and the block is
idle (log 11). -/
def State.withFetchWord (s : State) (nbits w : Nat) : State := s.presentWord (tableWord nbits w)

end Sys2Proof.Machine
end

