-- ==== Sys2Proof/Machine/Assembler.lean ====
section
/-! DEFINITION. The textual form of a command (30_encoding.md R61) and the pseudo-instructions (R62). Nothing of the
machine reads this file. -/

namespace Sys2Proof.Machine

/-- One source line: a command or a pseudo-instruction (30_encoding.md R61, R62). -/
inductive SourceLine where
  | command (i : Instr)
  | readraw
  | curgain
  | pwrcycle
  | withb (n : Nat)
deriving DecidableEq, Repr

/-- What a line stands for (30_encoding.md R62). `g` is the gain number the host kept from GETGAIN's answer, the
run-time operand of WITHB's last command (42_gain_select.md R104); no other line uses it. -/
def SourceLine.expand (g : Nat) : SourceLine → List Instr
  | .command i => [i]
  | .readraw => [.read]
  | .curgain => [.getgain]
  | .pwrcycle => [.pwrdn, .pwrup]
  | .withb n => .getgain :: .setgain 32 :: (List.replicate n .read ++ [.setgain g])

/-- The host's boot order before it trusts a sample (70_reset_and_hazards.md R142): steps (2) and (3). -/
def bootSequence (g : Nat) : List Instr := [.reset, .setgain g]

/-- A line may end with a comment after `;` (30_encoding.md R61). -/
def withoutComment (cs : List Char) : List Char := cs.takeWhile (fun c => c != ';')

/-- The words of a line, split at spaces and tabs; `w` holds the word being read, last character first (log 19). -/
def splitWords (w : List Char) : List Char → List (List Char)
  | [] => if w = [] then [] else [w.reverse]
  | c :: cs =>
    if c = ' ' ∨ c = '\t' then (if w = [] then splitWords [] cs else w.reverse :: splitWords [] cs)
    else splitWords (c :: w) cs

/-- The value of a digit; hexadecimal digits in either case (log 19). -/
def digitValue (c : Char) : Option Nat :=
  if '0' ≤ c ∧ c ≤ '9' then some (c.toNat - '0'.toNat)
  else if 'a' ≤ c ∧ c ≤ 'f' then some (c.toNat - 'a'.toNat + 10)
  else if 'A' ≤ c ∧ c ≤ 'F' then some (c.toNat - 'A'.toNat + 10)
  else none

/-- The number a run of digits of a base stands for, `acc` being what stands before it. -/
def readDigits (base acc : Nat) : List Char → Option Nat
  | [] => some acc
  | c :: cs =>
    match digitValue c with
    | some d => if d < base then readDigits base (acc * base + d) cs else none
    | none => none

/-- A decimal numeral, or a hexadecimal one after `0x` (30_encoding.md R61). -/
def readNumeral : List Char → Option Nat
  | [] => none
  | '0' :: 'x' :: c :: cs => readDigits 16 0 (c :: cs)
  | c :: cs => readDigits 10 0 (c :: cs)

/-- The words of a line read as a source line. SETGAIN's operand is 0 to 4095 (30_encoding.md R61, R62). -/
def readWords : List (List Char) → Option SourceLine
  | [m] =>
    if m = "READ".toList then some (.command .read)
    else if m = "GETGAIN".toList then some (.command .getgain)
    else if m = "PWRDN".toList then some (.command .pwrdn)
    else if m = "PWRUP".toList then some (.command .pwrup)
    else if m = "RESET".toList then some (.command .reset)
    else if m = "READRAW".toList then some .readraw
    else if m = "CURGAIN".toList then some .curgain
    else if m = "PWRCYCLE".toList then some .pwrcycle
    else none
  | [m, x] =>
    match readNumeral x with
    | some n =>
      if m = "SETGAIN".toList ∧ (Instr.setgain n).WellFormed then some (.command (.setgain n))
      else if m = "WITHB".toList then some (.withb n)
      else none
    | none => none
  | _ => none

/-- A line of text (30_encoding.md R61). -/
def readLine (text : String) : Option SourceLine := readWords (splitWords [] (withoutComment text.toList))

/-- The assembled word of a line that is one command, its own or an alias's (30_encoding.md R61, R62). -/
def assembleLine (text : String) : Option Word :=
  match readLine text with
  | some (.command i) => some (encode i)
  | some .readraw => some (encode .read)
  | some .curgain => some (encode .getgain)
  | _ => none

end Sys2Proof.Machine
end

