-- ==== Sys2Proof/Safety.lean ====
section
/-! DEFINITION. What claims are stated in: running for a number of ticks, the invariant of the reachable states, the
phase graph, the waveform on the clock line, and the hazards of 70_reset_and_hazards.md that the block does not test. -/

namespace Sys2Proof.Machine

/-- `n` ticks, one step each. -/
def ticks : Nat → State → Host.Outcome State Fault Refusal
  | 0, s => .next s
  | n + 1, s =>
    match step s with
    | .next t => ticks n t
    | .fault f => .fault f
    | .refused r => .refused r

/-- `rst` is 0 in the next `n` ticks. -/
abbrev State.NoRst (s : State) (n : Nat) : Prop := ∀ j, j < n → (s.hostAt j).rst = 0

/-- The next `n` samples of DIN are high. -/
abbrev State.DinHigh (s : State) (n : Nat) : Prop := ∀ j, j < n → s.dinAt j = 1

/-- The phase is one of a frame's (20_memory.md R34). -/
def Phase.inFrame : Phase → Bool
  | .bitH | .bitL | .plsH | .plsL => true
  | .idle | .wait | .dec | .settle | .pdRise | .pdHold => false

/-- What holds of the position registers and the clock in each phase of a reachable state
(40_sequencer.md R71 to R82; 10_state.md R16 to R18). -/
def State.PhaseInv (s : State) : Prop :=
  match s.ph with
  | .idle => True
  | .wait => (s.op = opRead ∨ s.op = opSetgain ∧ s.sck = 0) ∧ ∀ n, s.params.pollLimit = some n → s.pollcnt < n
  | .bitH => (s.op = opRead ∨ s.op = opSetgain) ∧ 1 ≤ s.bitcnt.toNat ∧
      (s.bitcnt = 24 ∧ s.op = opRead ∨ s.sck = 0)
  | .bitL => (s.op = opRead ∨ s.op = opSetgain) ∧ 1 ≤ s.bitcnt.toNat ∧ s.sck = 1
  | .plsH => (s.op = opRead ∨ s.op = opSetgain) ∧ 1 ≤ s.plscnt.toNat ∧ s.plscnt.toNat ≤ pulses s.sel ∧ s.sck = 0
  | .plsL => (s.op = opRead ∨ s.op = opSetgain) ∧ 1 ≤ s.plscnt.toNat ∧ s.plscnt.toNat ≤ pulses s.sel ∧ s.sck = 1
  | .dec => (s.op = opRead ∨ s.op = opSetgain) ∧ s.sck = 0
  | .settle => (s.op = opSetgain ∨ s.op = opPwrup ∨ s.op = opReset) ∧ s.sck = 0 ∧
      1 ≤ s.dlycnt ∧ s.dlycnt ≤ s.params.nSettle
  | .pdRise => (s.op = opPwrdn ∨ s.op = opReset) ∧ s.sck = 0
  | .pdHold => (s.op = opPwrdn ∨ s.op = opReset) ∧ s.sck = 1 ∧ 1 ≤ s.dlycnt ∧ s.dlycnt ≤ s.params.nPdhold

/-- What holds of every reachable state of a well-formed instantiation. -/
structure State.Inv (s : State) : Prop where
  /-- The parameters meet 00_scope.md R3. -/
  params : s.params.WellFormed
  /-- Exactly one GainChannel is armed (10_state.md R13). -/
  armed : s.sel ≠ 0
  /-- BITCNT is 0 to 24 (10_state.md R16). -/
  bits : s.bitcnt.toNat ≤ 24
  /-- No response is present while a command runs (10_state.md R20). -/
  quiet : s.ph ≠ .idle → s.rspValid = 0
  /-- RSP_ST holds a code the block produces (30_encoding.md R58). -/
  status : s.rspSt = Status.ok.code ∨ s.rspSt = Status.timeout.code ∨ s.rspSt = Status.invalidGain.code ∨
    s.rspSt = Status.illegalCommand.code
  /-- An error returns no data (30_encoding.md R51). -/
  noData : s.rspSt ≠ Status.ok.code → s.rspData = 0
  phase : s.PhaseInv

/-- In this tick the host presents a word that encodes the command `i` (20_memory.md R41). -/
abbrev State.Presents (s : State) (i : Instr) : Prop :=
  (s.hostAt 0).rst = 0 ∧ (s.hostAt 0).cmdValid = 1 ∧ decode (s.hostAt 0).cmd = .ok i

/-- The phase graph of 40_sequencer.md R82, without the row for `rst`: `s` may be followed by phase `p`. -/
def State.MayGo (s : State) (p : Phase) : Prop :=
  match s.ph, p with
  | .idle, .idle => (s.hostAt 0).cmdValid = 0 ∨ s.Presents .getgain ∨
      (∃ g, s.Presents (.setgain g) ∧ g ≠ 128 ∧ g ≠ 64 ∧ g ≠ 32) ∨ ∃ e, decode (s.hostAt 0).cmd = .error e
  | .idle, .wait => s.Presents .read ∨ ∃ g, s.Presents (.setgain g) ∧ (g = 128 ∨ g = 64 ∨ g = 32)
  | .idle, .pdRise => s.Presents .pwrdn ∨ s.Presents .reset
  | .idle, .settle => s.Presents .pwrup
  | .wait, .bitH => s.pinReadDin = 0
  | .wait, .wait => s.pinReadDin = 1 ∧ s.pollLimitReached = false
  | .wait, .idle => s.pinReadDin = 1 ∧ s.pollLimitReached = true
  | .bitH, .bitL => True
  | .bitL, .bitH => 1 < s.bitcnt.toNat
  | .bitL, .plsH => s.bitcnt = 1
  | .plsH, .plsL => True
  | .plsL, .plsH => 1 < s.plscnt.toNat
  | .plsL, .dec => s.plscnt = 1
  | .dec, .idle => s.op = opRead
  | .dec, .settle => s.op = opSetgain
  | .settle, .settle => 1 < s.dlycnt
  | .settle, .idle => s.dlycnt ≤ 1
  | .pdRise, .pdHold => True
  | .pdHold, .pdHold => 1 < s.dlycnt
  | .pdHold, .idle => s.dlycnt ≤ 1 ∧ s.op = opPwrdn
  | .pdHold, .settle => s.dlycnt ≤ 1 ∧ s.op = opReset
  | _, _ => False

/-- The levels SCK shows after each of the next `n` ticks. -/
def sckTrace : Nat → State → List Bit
  | 0, _ => []
  | n + 1, s =>
    match step s with
    | .next t => t.sck :: sckTrace n t
    | .fault _ => []
    | .refused _ => []

/-- Changes from 0 to 1 on a line at level `b` that then shows `l` (20_memory.md R31). -/
def risingEdges (b : Bit) : List Bit → Nat
  | [] => 0
  | c :: l => (if b = 0 ∧ c = 1 then 1 else 0) + risingEdges c l

/-- Changes from 1 to 0 on a line at level `b` that then shows `l`. -/
def fallingEdges (b : Bit) : List Bit → Nat
  | [] => 0
  | c :: l => (if b = 1 ∧ c = 0 then 1 else 0) + fallingEdges c l

/-- The phase `j` ticks after the WAIT tick that saw DIN low, with `k` trailing pulses, for `1 <= j <= 49 + 2k`
(40_sequencer.md R83(a)). -/
def framePhase (k j : Nat) : Phase :=
  if j = 49 + 2 * k then .dec
  else if j ≤ 48 then (if j % 2 = 1 then .bitH else .bitL)
  else (if j % 2 = 1 then .plsH else .plsL)

/-- Hazard: READ is accepted with the clock high (70_reset_and_hazards.md R148). The block does not test it (R152). -/
abbrev State.ReadsWithClockHigh (s : State) : Prop :=
  s.ph = .idle ∧ s.Presents .read ∧ s.sck = 1

/-- Hazard: `rst` cuts a frame short after its ready condition (70_reset_and_hazards.md R141; 20_memory.md R35). -/
abbrev State.CutsFrame (s : State) : Prop := (s.hostAt 0).rst = 1 ∧ s.ph.inFrame = true

/-- Duty: the host presents a command only where it is taken (70_reset_and_hazards.md R151). -/
abbrev State.HostInTurn (s : State) : Prop := (s.hostAt 0).cmdValid = 1 → s.ph = .idle

end Sys2Proof.Machine
end

