-- ==== Sys2Proof/Machine/Device.lean ====
section
/-! DEFINITION. The far-end device as far as the source states it (10_state.md R22; 20_memory.md R42 to R47): assumptions
about the DIN answers, and an observer of the clock line that says what of the device is known. The step function reads
none of it (20_memory.md section 5; log 18). -/

namespace Sys2Proof.Machine

/-- The device signals that a sample is waiting by holding DIN low (20_memory.md R42). -/
abbrev State.DeviceReady (s : State) : Prop := s.pinReadDin = 0

/-- The device is ready and presents the sample `v`, most significant bit first, one bit for each data pulse, valid
where the block samples it: `2i` ticks after the WAIT tick that sees it ready (20_memory.md R33, R43). -/
abbrev State.DevicePresents (s : State) (v : Sample) : Prop :=
  s.DeviceReady ∧ ∀ i, 1 ≤ i → i ≤ 24 → s.dinAt (2 * i) = v.extractLsb' (24 - i) 1

/-- The selection a frame of `edges` pulses sends: 24 data pulses and 1, 2 or 3 trailing ones (20_memory.md R44). -/
def selectionSent (edges : Nat) : Option (BitVec 2) :=
  if edges = 25 then some 0b01 else if edges = 26 then some 0b10 else if edges = 27 then some 0b11 else none

/-- What is known of the device from the clock line and from when frames begin and end (10_state.md R22). What the
source leaves open is unknown here, and the conventions are the model's own: DESIGN CHOICE, log 18. -/
structure DeviceView where
  /-- `DEV_SEL`, or `none` where the source does not say it (91_not_in_source.md N6; log 18). -/
  sel : Option (BitVec 2)
  /-- The line has put the device to sleep: SCK was high for `T_PD` or longer and has not fallen since (20_memory.md R45). -/
  asleep : Bool
  /-- Nothing the source leaves undefined has happened to the device since the last RESET command (20_memory.md R35,
  93_implementation_defined.md U1). -/
  inStep : Bool
  /-- Ticks SCK has been high without a break. -/
  high : Nat
  /-- Ticks since the device was last woken, lost, or given another selection (20_memory.md R46). -/
  since : Nat
  /-- Rising edges in the current frame. -/
  edges : Nat
  /-- Ticks of idle bus: since the last command that runs a frame, or the last RESET command, was at work
  (20_memory.md R47, 70_reset_and_hazards.md R146). -/
  idle : Nat
deriving DecidableEq, Repr

/-- Nothing is known of the device (70_reset_and_hazards.md R142). -/
def DeviceView.unknown : DeviceView :=
  { sel := none, asleep := false, inStep := false, high := 0, since := 0, edges := 0, idle := 0 }

/-- The tick from `s` to `t` begins a frame (20_memory.md R34). -/
def beginsFrame (s t : State) : Bool := s.ph == .wait && t.ph == .bitH

/-- The tick from `s` to `t` ends a frame: its last trailing pulse has been emitted (10_state.md R22(a)). -/
def endsFrame (s t : State) : Bool := s.ph == .plsL && t.ph == .dec

/-- The tick from `s` to `t` ends a RESET command, which recovers the device (43_power.md R112). -/
def endsReset (s t : State) : Bool :=
  (s.hostAt 0).rst == 0 && s.ph == .settle && s.op == opReset && t.ph == .idle

/-- The bus is in use: a frame runs, or the settle delay SETGAIN counts after its frame, or a RESET command. The ready wait,
PWRDN and PWRUP run no frame and leave the bus idle (70_reset_and_hazards.md R146). DESIGN CHOICE (log 18): SETGAIN's own
delay is no idle time, since R142(4) vouches for the sample after it. -/
def State.usesBus (s : State) : Bool :=
  match s.ph with
  | .bitH | .bitL | .plsH | .plsL | .dec => true
  | .settle => s.op == opSetgain || s.op == opReset
  | .pdRise | .pdHold => s.op == opReset
  | .idle | .wait => false

/-- Ticks of idle bus once the tick from `s` is over. -/
def DeviceView.idleAfter (v : DeviceView) (s : State) : Nat := if s.usesBus then 0 else v.idle + 1

/-- The tick from `s` to `t` leaves the device in a state the source does not define: a frame begins with SCK high (R148;
V7) or with a clock too slow for the power-down threshold (R144; U4), a ready wait fails (U1), PWRDN begins with SCK high (V6), or the bus has been idle for longer than the "few seconds"
after which R146 asks for RESET. DESIGN CHOICE (log 18): so does `rst` in every phase, not only where it cuts a frame or a
hold (R141), because R142 calls the device's state after it unknown. -/
def DeviceView.loses (v : DeviceView) (s t : State) : Bool :=
  (s.hostAt 0).rst == 1 ||
  (beginsFrame s t && (s.sck == 1 || !decide s.params.FrameFits)) ||
  (s.ph == .wait && t.ph == .idle) ||
  (s.ph == .idle && t.ph == .pdRise && t.op == opPwrdn && s.sck == 1) ||
  decide (s.params.IdleTooLong (v.idleAfter s))

/-- Whether the device is in step once the tick from `s` to `t` is over: what loses it holds until a RESET command has ended
(20_memory.md R35, 43_power.md R112). -/
def DeviceView.inStepAfter (v : DeviceView) (s t : State) : Bool := !v.loses s t && (endsReset s t || v.inStep)

/-- Ticks SCK has been high once the tick from `s` is over; the line shows `s.sck` during it (00_scope.md R6). -/
def DeviceView.highAfter (v : DeviceView) (s : State) : Nat := if s.sck = 1 then v.high + 1 else 0

/-- Whether the device sleeps once the tick from `s` is over (20_memory.md R45, R46). -/
def DeviceView.asleepAfter (v : DeviceView) (s : State) : Bool :=
  s.sck == 1 && (v.asleep || decide (s.params.lastsAtLeast (v.highAfter s) Config.powerDownMicros))

/-- The device's selection once the tick from `s` to `t` is over: a complete frame of a device in step sets it
(20_memory.md R44) and sleep loses it (N6). DESIGN CHOICE (log 18): it is unknown for as long as the device is out of
step, also after a complete frame (R35) and after the frame that R148 begins with SCK high (V7). -/
def DeviceView.selAfter (v : DeviceView) (s t : State) : Option (BitVec 2) :=
  if v.asleepAfter s || !v.inStepAfter s t then none
  else if endsFrame s t then selectionSent v.edges
  else v.sel

/-- The settle delay starts anew: the device sleeps, is lost, or has been sent another selection (20_memory.md R46; log 18). -/
def DeviceView.unsettles (v : DeviceView) (s t : State) : Bool :=
  v.asleepAfter s || v.loses s t || (endsFrame s t && v.selAfter s t != v.sel)

/-- One tick observed. After an `rst` tick nothing is known of the device but its clock line (70_reset_and_hazards.md R142;
log 18). -/
def DeviceView.observe (v : DeviceView) (s t : State) : DeviceView :=
  { sel := v.selAfter s t
    asleep := v.asleepAfter s
    inStep := v.inStepAfter s t
    high := v.highAfter s
    since := if v.unsettles s t then 0 else v.since + 1
    edges := if beginsFrame s t then 0 else v.edges + (if s.sck = 0 ∧ t.sck = 1 then 1 else 0)
    idle := v.idleAfter s }

/-- The settle delay after the last wake or change of selection has passed (20_memory.md R46). -/
abbrev DeviceView.Settled (v : DeviceView) (q : Params) : Prop := q.lastsAtLeast v.since Config.settleMicros

/-- A frame read now returns a sample of selection `x` that the source vouches for (70_reset_and_hazards.md R142 to R148):
the instantiation meets the times of 00_scope.md R4 (R143 to R145), the device is in step, awake and settled, the bus has not
been idle too long, and the device's selection is known to be `x`. That no one else drives the wires (R149) is a premise of every claim about the device. A response alone says none of
it (R152). -/
structure DeviceView.Trusted (v : DeviceView) (q : Params) (x : BitVec 2) : Prop where
  conforms : q.Conforms
  inStep : v.inStep = true
  awake : v.asleep = false
  settled : v.Settled q
  inUse : ¬ q.IdleTooLong v.idle
  sel : v.sel = some x

/-- The view after `n` observed ticks. -/
def observeTicks : Nat → State → DeviceView → DeviceView
  | 0, _, v => v
  | n + 1, s, v =>
    match step s with
    | .next t => observeTicks n t (v.observe s t)
    | .fault _ => v
    | .refused _ => v

end Sys2Proof.Machine
end

