-- ==== Sys2Proof/Certificates/Slice0/Obligations.lean ====
section
/-! DEFINITION. The statements for the provers. Each docstring names the rules of spec/ it formalises. A register equation
written as a whole record says the frame too: every register it does not name is as before. -/

open Sys2Proof Sys2Proof.Machine

/-! ### Encoding -/

/-- The words of 30_encoding.md R61 and of the test vectors decode to the commands they stand for, and the first reserved
words to none. -/
def Obligations.CommandWordsDecode : Prop :=
  decode 0x1000 = .ok .read ∧ decode 0x2080 = .ok (.setgain 128) ∧ decode 0x2040 = .ok (.setgain 64) ∧
  decode 0x2020 = .ok (.setgain 32) ∧ decode 0x23E7 = .ok (.setgain 999) ∧ decode 0x3000 = .ok .getgain ∧
  decode 0x4000 = .ok .pwrdn ∧ decode 0x5000 = .ok .pwrup ∧ decode 0x6000 = .ok .reset ∧
  decode 0x0000 = .error (.reservedOpcode 0) ∧ decode 0x7000 = .error (.reservedOpcode 7) ∧
  decode 0x1001 = .error (.nonzeroOperand 1 1)

/-- Decoding an encoded well-formed command gives it back, at every operand (30_encoding.md R50, R52, R53, R61). -/
def Obligations.DecodeUndoesEncode : Prop :=
  ∀ i : Instr, i.WellFormed → decode (encode i) = .ok i

/-- A word decodes to a command exactly if it is that command's one encoding (30_encoding.md R57). -/
def Obligations.DecodeAcceptsExactlyTheEncodings : Prop :=
  ∀ (w : Word) (i : Instr), decode w = .ok i ↔ i.WellFormed ∧ encode i = w

/-- 30_encoding.md R56, R57 and 60_exceptions.md R123, from the bits of the word: a reserved opcode, or a nonzero operand
where 0 is required, answers IllegalCommand in the accept tick and changes nothing else; every other word is a command. -/
def Obligations.ReservedWordsAnswerIllegalCommand : Prop :=
  ∀ (s : State) (w : Word), s.ph = .idle → s.hostAt 0 = { rst := 0, cmdValid := 1, cmd := w } →
    (w.extractLsb' 12 4 = 0 ∨ 7 ≤ (w.extractLsb' 12 4).toNat ∨ (w.extractLsb' 12 4 ≠ 2 ∧ w.extractLsb' 0 12 ≠ 0) →
      step s = .next { s.advance with rspValid := 1, rspSt := 5, rspData := 0 }) ∧
    (¬ (w.extractLsb' 12 4 = 0 ∨ 7 ≤ (w.extractLsb' 12 4).toNat ∨ (w.extractLsb' 12 4 ≠ 2 ∧ w.extractLsb' 0 12 ≠ 0)) →
      ∃ i : Instr, i.WellFormed ∧ encode i = w ∧ step s = exec i s.advance)

/-- The selection tables of 30_encoding.md R54 and R55, undefined outside them, with the pulses of a frame, and their round
trip; GETGAIN with no selection armed is refused, as R55 asks. -/
def Obligations.SelectionTablesAgree : Prop :=
  selOf 128 = some 0b01 ∧ selOf 32 = some 0b10 ∧ selOf 64 = some 0b11 ∧
  (∀ g, g ≠ 128 → g ≠ 32 → g ≠ 64 → selOf g = none) ∧
  gainOf 0b01 = some 128 ∧ gainOf 0b10 = some 32 ∧ gainOf 0b11 = some 64 ∧ gainOf 0b00 = none ∧
  channelOf 0b01 = some .a128 ∧ channelOf 0b10 = some .b32 ∧ channelOf 0b11 = some .a64 ∧
  (∀ x, pulses x = x.toNat) ∧ 24 + pulses 0b01 = 25 ∧ 24 + pulses 0b10 = 26 ∧ 24 + pulses 0b11 = 27 ∧
  (∀ s : State, s.sel = 0b00 → exec .getgain s = .refused .noGainArmed) ∧
  (∀ g x, selOf g = some x → gainOf x = some g) ∧ (∀ g x, gainOf x = some g → selOf g = some x)

/-- The example lines of 30_encoding.md R61 assemble to the words it gives, SETGAIN takes 0 to 4095 only, and the aliases and
macros of R62 are read and expand as its table says, WITHB for every count and every restored gain `g`.
The blanks of a line and the case of hexadecimal digits are the model's choice (log 19). -/
def Obligations.SourceLinesAssemble : Prop :=
  assembleLine "READ" = some 0x1000 ∧ assembleLine "SETGAIN 128" = some 0x2080 ∧ assembleLine "SETGAIN 64" = some 0x2040 ∧
  assembleLine "SETGAIN 32" = some 0x2020 ∧ assembleLine "SETGAIN 999" = some 0x23E7 ∧
  assembleLine "GETGAIN" = some 0x3000 ∧ assembleLine "PWRDN" = some 0x4000 ∧ assembleLine "PWRUP" = some 0x5000 ∧
  assembleLine "RESET" = some 0x6000 ∧ assembleLine "SETGAIN 32 ; channel B" = some 0x2020 ∧
  assembleLine "SETGAIN 0x3E7" = some 0x23E7 ∧ assembleLine "SETGAIN 0" = some 0x2000 ∧
  assembleLine "SETGAIN 4095" = some 0x2FFF ∧ assembleLine "SETGAIN 4096" = none ∧
  assembleLine "READRAW" = some 0x1000 ∧ assembleLine "CURGAIN" = some 0x3000 ∧
  readLine "READRAW" = some .readraw ∧ readLine "CURGAIN" = some .curgain ∧ readLine "PWRCYCLE" = some .pwrcycle ∧
  readLine "WITHB 3" = some (.withb 3) ∧
  (∀ g, SourceLine.readraw.expand g = [.read] ∧ SourceLine.curgain.expand g = [.getgain] ∧
    SourceLine.pwrcycle.expand g = [.pwrdn, .pwrup]) ∧
  ∀ n g, (SourceLine.withb n).expand g = [.getgain, .setgain 32] ++ List.replicate n .read ++ [.setgain g]

/-! ### The step -/

/-- In IDLE a word that decodes to `i` is executed: the step is `exec i` in the state whose inputs of this tick are past
(20_memory.md R41; 40_sequencer.md R71). -/
def Obligations.StepRunsTheDecodedCommand : Prop :=
  ∀ (s : State) (i : Instr), s.ph = .idle → s.Presents i → step s = exec i s.advance

/-- The host's check word: presented as the model's `withFetchWord` presents it, a decoded word is what the next step runs
(the model's own interface, log 11). -/
def Obligations.PresentedTableWordIsRun : Prop :=
  ∀ (s : State) (w : Nat) (i : Instr), w < 65536 → decodeTableWord 16 w = some i →
    step (s.withFetchWord 16 w) = exec i (s.withFetchWord 16 w).advance

/-- 70_reset_and_hazards.md R140 with the values of 10_state.md R23, from every state and whatever the other inputs: every
register but SHR, which R23 leaves unspecified and this statement leaves open. -/
def Obligations.HardwareResetOverridesEverything : Prop :=
  ∀ s : State, (s.hostAt 0).rst = 1 →
    ∃ v : Sample, step s = .next
      { s.advance with
        sel := 0b01, sck := 0, ph := .idle, rspValid := 0, rspSt := 0, rspData := 0, op := 0, bitcnt := 0, plscnt := 0,
        pollcnt := 0, dlycnt := 0, shr := v }

/-- 40_sequencer.md R84: in every phase other than IDLE `cmd_valid` and `cmd` are not read. -/
def Obligations.BusyBlockIgnoresCommands : Prop :=
  ∀ (s : State) (rst v v' d : Bit) (w w' : Word), s.ph ≠ .idle → tick s rst v w d = tick s rst v' w' d

/-- DIN is sampled in WAIT and BIT_L only (20_memory.md R32). -/
def Obligations.DinIsReadInWaitAndBitLOnly : Prop :=
  ∀ (s : State) (rst v d d' : Bit) (w : Word), s.ph ≠ .wait → s.ph ≠ .bitL → tick s rst v w d = tick s rst v w d'

/-- Every step moves time on by one tick, shows the next tick the next inputs, and writes no parameter
(00_scope.md R6; 60_exceptions.md R130). The input lists and the tick count are the model's own (log 2). -/
def Obligations.StepMovesInputsOnAndKeepsParameters : Prop :=
  ∀ s t : State, step s = .next t →
    t.params = s.params ∧ t.now = s.now + 1 ∧ (∀ k, t.dinAt k = s.dinAt (k + 1)) ∧ ∀ k, t.hostAt k = s.hostAt (k + 1)

/-! ### Accept ticks -/

/-- 40_sequencer.md R71: in IDLE nothing changes without a command (only the model's tick count and inputs move on), and
with one, case by case, from the bits of the command word. SEL = 0b00, for which GETGAIN has no answer, is refused
(30_encoding.md R55). -/
def Obligations.AcceptTickFollowsTheCommandTable : Prop :=
  ∀ (s : State) (w : Word), s.ph = .idle → (s.hostAt 0).rst = 0 → (s.hostAt 0).cmd = w →
    ((s.hostAt 0).cmdValid = 0 → step s = .next { s with now := s.now + 1, host := s.host.tail, din := s.din.tail }) ∧
    ((s.hostAt 0).cmdValid = 1 →
      (w.extractLsb' 12 4 = 1 → w.extractLsb' 0 12 = 0 →
        step s = .next { s.advance with rspValid := 0, op := 1, pollcnt := 0, ph := .wait }) ∧
      (w.extractLsb' 12 4 = 2 → w.extractLsb' 0 12 = 128 →
        step s = .next { s.advance with rspValid := 0, sel := 0b01, sck := 0, op := 2, pollcnt := 0, ph := .wait }) ∧
      (w.extractLsb' 12 4 = 2 → w.extractLsb' 0 12 = 32 →
        step s = .next { s.advance with rspValid := 0, sel := 0b10, sck := 0, op := 2, pollcnt := 0, ph := .wait }) ∧
      (w.extractLsb' 12 4 = 2 → w.extractLsb' 0 12 = 64 →
        step s = .next { s.advance with rspValid := 0, sel := 0b11, sck := 0, op := 2, pollcnt := 0, ph := .wait }) ∧
      (w.extractLsb' 12 4 = 2 → w.extractLsb' 0 12 ≠ 128 → w.extractLsb' 0 12 ≠ 32 → w.extractLsb' 0 12 ≠ 64 →
        step s = .next { s.advance with rspValid := 1, rspSt := 2, rspData := 0 }) ∧
      (w.extractLsb' 12 4 = 3 → w.extractLsb' 0 12 = 0 →
        step s =
          if s.sel = 0b01 then .next { s.advance with rspValid := 1, rspSt := 0, rspData := 128 }
          else if s.sel = 0b10 then .next { s.advance with rspValid := 1, rspSt := 0, rspData := 32 }
          else if s.sel = 0b11 then .next { s.advance with rspValid := 1, rspSt := 0, rspData := 64 }
          else .refused .noGainArmed) ∧
      (w.extractLsb' 12 4 = 4 → w.extractLsb' 0 12 = 0 →
        step s = .next { s.advance with rspValid := 0, op := 4, sck := 0, ph := .pdRise }) ∧
      (w.extractLsb' 12 4 = 5 → w.extractLsb' 0 12 = 0 →
        step s = .next { s.advance with rspValid := 0, op := 5, sck := 0, dlycnt := s.params.nSettle, ph := .settle }) ∧
      (w.extractLsb' 12 4 = 6 → w.extractLsb' 0 12 = 0 →
        step s = .next { s.advance with rspValid := 0, op := 6, sck := 0, ph := .pdRise }) ∧
      (w.extractLsb' 12 4 = 0 ∨ 7 ≤ (w.extractLsb' 12 4).toNat ∨ (w.extractLsb' 12 4 ≠ 2 ∧ w.extractLsb' 0 12 ≠ 0) →
        step s = .next { s.advance with rspValid := 1, rspSt := 5, rspData := 0 }))

/-- READ, a supported SETGAIN and the power commands are accepted in every state, and GETGAIN in every state with an armed
selection: the accept tick's own writes and nothing else (40_sequencer.md R71). -/
def Obligations.ExecAcceptsEveryCommand : Prop :=
  ∀ s : State,
    exec .read s = .next { s with rspValid := 0, op := 1, pollcnt := 0, ph := .wait } ∧
    exec (.setgain 128) s = .next { s with rspValid := 0, sel := 1, sck := 0, op := 2, pollcnt := 0, ph := .wait } ∧
    exec (.setgain 32) s = .next { s with rspValid := 0, sel := 2, sck := 0, op := 2, pollcnt := 0, ph := .wait } ∧
    exec (.setgain 64) s = .next { s with rspValid := 0, sel := 3, sck := 0, op := 2, pollcnt := 0, ph := .wait } ∧
    (s.sel ≠ 0 → ∃ t, exec .getgain s = .next t ∧ t.rspValid = 1 ∧ t.rspSt = 0) ∧
    exec .pwrdn s = .next { s with rspValid := 0, op := 4, sck := 0, ph := .pdRise } ∧
    exec .pwrup s = .next { s with rspValid := 0, op := 5, sck := 0, dlycnt := s.params.nSettle, ph := .settle } ∧
    exec .reset s = .next { s with rspValid := 0, op := 6, sck := 0, ph := .pdRise }

/-- What no accept tick changes, whatever the command: the shift register, the frame counters, the configuration and the
inputs; SEL changes by SETGAIN only, and READ, GETGAIN and a rejected SETGAIN write no pin (40_sequencer.md R71). -/
def Obligations.AcceptTickFrame : Prop :=
  ∀ (i : Instr) (s t : State), exec i s = .next t →
    t.shr = s.shr ∧ t.bitcnt = s.bitcnt ∧ t.plscnt = s.plscnt ∧ t.params = s.params ∧ t.now = s.now ∧ t.host = s.host ∧
    t.din = s.din ∧ ((∀ g, i ≠ .setgain g) → t.sel = s.sel) ∧
    (i = .read ∨ i = .getgain ∨ (∃ g, i = .setgain g ∧ selOf g = none) → t.sck = s.sck) ∧
    (i ≠ .pwrup → t.dlycnt = s.dlycnt) ∧
    (t.rspValid = 0 → t.rspSt = s.rspSt ∧ t.rspData = s.rspData)

/-- 42_gain_select.md R101 and 60_exceptions.md R122: an unsupported gain answers InvalidGain in its accept tick and leaves
everything but the response as it was. -/
def Obligations.UnsupportedGainAnswersInvalidGain : Prop :=
  ∀ (s : State) (g : Nat), s.ph = .idle → g ≠ 128 → g ≠ 64 → g ≠ 32 →
    exec (.setgain g) s = .next { s with rspValid := 1, rspSt := 2, rspData := 0 }

/-- 42_gain_select.md R103: GETGAIN, `0x3000`, answers the armed gain and writes only the response registers; after the hardware
reset's SEL = 0b01 it answers 128. With no gain armed it is refused (30_encoding.md R55). -/
def Obligations.GetgainAnswersTheArmedGain : Prop :=
  encode .getgain = 0x3000 ∧ ∀ s : State,
    (s.sel = 0b01 → exec .getgain s = .next { s with rspValid := 1, rspSt := 0, rspData := 128 }) ∧
    (s.sel = 0b10 → exec .getgain s = .next { s with rspValid := 1, rspSt := 0, rspData := 32 }) ∧
    (s.sel = 0b11 → exec .getgain s = .next { s with rspValid := 1, rspSt := 0, rspData := 64 }) ∧
    (s.sel = 0b00 → exec .getgain s = .refused .noGainArmed)

/-- The block's part of the channel-B bracket (42_gain_select.md R104): SETGAIN with the number GETGAIN answered is a
supported gain and arms the very selection GETGAIN read, from any later state. -/
def Obligations.SavedGainRestoresTheSelection : Prop :=
  ∀ s a later : State, exec .getgain s = .next a →
    ∃ t, exec (.setgain a.rspData.toNat) later = .next t ∧ t.sel = s.sel ∧ t.op = 2 ∧ t.ph = .wait

/-! ### Phases -/

/-- 40_sequencer.md R73, phase WAIT: ready, timed out (the ready test first), or one more sample counted. -/
def Obligations.WaitTickPollsTheReadyLine : Prop :=
  ∀ s : State, s.ph = .wait → (s.hostAt 0).rst = 0 →
    (s.dinAt 0 = 0 → step s = .next { s.advance with bitcnt := 24, ph := .bitH }) ∧
    (∀ n, s.dinAt 0 = 1 → s.params.pollLimit = some n → n ≤ s.pollcnt + 1 →
      step s = .next { s.advance with rspValid := 1, rspSt := 1, rspData := 0, ph := .idle }) ∧
    (s.dinAt 0 = 1 → (∀ n, s.params.pollLimit = some n → s.pollcnt + 1 < n) →
      step s = .next { s.advance with pollcnt := s.pollcnt + 1 })

/-- 40_sequencer.md R74 and R75, phases BIT_H and BIT_L; the new bit enters SHR at bit 0 and every older bit moves one
place up. At BITCNT 0, which no run reaches, that 0 minus 1 wraps at the register's width is the model's choice (log 10). -/
def Obligations.BitTicksClockAndShift : Prop :=
  ∀ s : State, (s.hostAt 0).rst = 0 →
    (s.ph = .bitH → step s = .next { s.advance with sck := 1, ph := .bitL }) ∧
    (s.ph = .bitL → s.bitcnt ≠ 1 → step s = .next
      { s.advance with shr := s.shr.extractLsb' 0 23 ++ s.dinAt 0, sck := 0, bitcnt := s.bitcnt - 1, ph := .bitH }) ∧
    (s.ph = .bitL → s.bitcnt = 1 → step s = .next
      { s.advance with
        shr := s.shr.extractLsb' 0 23 ++ s.dinAt 0, sck := 0, bitcnt := s.bitcnt - 1, plscnt := s.sel, ph := .plsH })

/-- 40_sequencer.md R76 and R77, phases PLS_H and PLS_L. At PLSCNT 0, which no run reaches, that 0 minus 1 wraps at the
register's width is the model's choice (log 10). -/
def Obligations.PulseTicksCountTrailingPulses : Prop :=
  ∀ s : State, (s.hostAt 0).rst = 0 →
    (s.ph = .plsH → step s = .next { s.advance with sck := 1, ph := .plsL }) ∧
    (s.ph = .plsL → step s = .next
      { s.advance with sck := 0, plscnt := s.plscnt - 1, ph := if s.plscnt = 1 then .dec else .plsH })

/-- 40_sequencer.md R78, phase DEC: READ responds with the 32-bit form of the decoded sample, SETGAIN settles; any other OP
does not occur in a reachable state and is refused. -/
def Obligations.DecTickDeliversOrSettles : Prop :=
  ∀ s : State, s.ph = .dec → (s.hostAt 0).rst = 0 →
    (s.shr.signExtend 32).toInt = decode24 s.shr ∧ (s.Inv → s.op = 1 ∨ s.op = 2) ∧
    (s.op = 1 → step s = .next
      { s.advance with rspValid := 1, rspSt := 0, rspData := s.shr.signExtend 32, ph := .idle }) ∧
    (s.op = 2 → step s = .next { s.advance with dlycnt := s.params.nSettle, ph := .settle }) ∧
    (s.op ≠ 1 → s.op ≠ 2 → step s = .refused (.noFrameOwner s.op))

/-- 40_sequencer.md R79, R80 and R81: phases SETTLE, PD_RISE and PD_HOLD. -/
def Obligations.DelayTicksCountAndEnd : Prop :=
  ∀ s : State, (s.hostAt 0).rst = 0 →
    (s.ph = .settle → 1 < s.dlycnt → step s = .next { s.advance with dlycnt := s.dlycnt - 1 }) ∧
    (s.ph = .settle → s.dlycnt ≤ 1 → step s = .next
      { s.advance with rspValid := 1, rspSt := 0, rspData := 0, ph := .idle }) ∧
    (s.ph = .pdRise → step s = .next { s.advance with sck := 1, dlycnt := s.params.nPdhold, ph := .pdHold }) ∧
    (s.ph = .pdHold → 1 < s.dlycnt → step s = .next { s.advance with dlycnt := s.dlycnt - 1 }) ∧
    (s.ph = .pdHold → s.dlycnt ≤ 1 → s.op = 4 → step s = .next
      { s.advance with rspValid := 1, rspSt := 0, rspData := 0, ph := .idle }) ∧
    (s.ph = .pdHold → s.dlycnt ≤ 1 → s.op = 6 → step s = .next
      { s.advance with sck := 0, dlycnt := s.params.nSettle, ph := .settle }) ∧
    (s.ph = .pdHold → s.dlycnt ≤ 1 → s.op ≠ 4 → s.op ≠ 6 → step s = .refused (.noHoldOwner s.op))

/-- 40_sequencer.md R82: from a reachable state every step follows the phase graph, and `rst` leads to IDLE. -/
def Obligations.StepsFollowThePhaseGraph : Prop :=
  ∀ s t : State, s.Inv → step s = .next t →
    ((s.hostAt 0).rst = 1 → t.ph = .idle) ∧ ((s.hostAt 0).rst = 0 → s.MayGo t.ph)

/-! ### Invariants and whole-machine rules -/

/-- The invariant holds at reset. The reset parameters are the model's choice (log 3). -/
def Obligations.ResetMeetsTheInvariant : Prop := State.reset.Inv

/-- Every step keeps the invariant, whatever the inputs (10_state.md R13, R16 to R20; 40_sequencer.md R78, R81). -/
def Obligations.StepKeepsTheInvariant : Prop :=
  ∀ s t : State, s.Inv → step s = .next t → t.Inv

/-- From a state that meets the invariant the block always has a next state: no tick stops it (40_sequencer.md R70). -/
def Obligations.StepNeverStops : Prop :=
  ∀ s : State, s.Inv → ∃ t, step s = .next t ∧ t.Inv

/-- SEL is written only by `rst` and by the accept tick of a SETGAIN with operand 128, 64 or 32 (10_state.md R13). -/
def Obligations.SelChangesOnlyByResetOrSetgain : Prop :=
  ∀ s t : State, step s = .next t → t.sel ≠ s.sel →
    ((s.hostAt 0).rst = 1 ∧ t.sel = 0b01) ∨
    (s.ph = .idle ∧ ∃ g, s.Presents (.setgain g) ∧
      (g = 128 ∧ t.sel = 0b01 ∨ g = 32 ∧ t.sel = 0b10 ∨ g = 64 ∧ t.sel = 0b11))

/-- SHR's only write but for `rst` is the shift of BIT_L (10_state.md R12). -/
def Obligations.ShrChangesOnlyByShifting : Prop :=
  ∀ s t : State, step s = .next t → (s.hostAt 0).rst = 0 → t.shr ≠ s.shr →
    s.ph = .bitL ∧ t.shr = s.shr.extractLsb' 0 23 ++ s.dinAt 0

/-- SCK changes only in the accept tick of SETGAIN, PWRDN, PWRUP or RESET, in a phase that writes it, or by `rst`
(10_state.md R11). -/
def Obligations.SckChangesOnlyWhereWritten : Prop :=
  ∀ s t : State, step s = .next t → t.sck ≠ s.sck →
    (s.hostAt 0).rst = 1 ∨
    (s.ph = .idle ∧ t.sck = 0 ∧
      (s.Presents .pwrdn ∨ s.Presents .pwrup ∨ s.Presents .reset ∨
        ∃ g, s.Presents (.setgain g) ∧ (g = 128 ∨ g = 64 ∨ g = 32))) ∨
    s.ph = .bitH ∨ s.ph = .bitL ∨ s.ph = .plsH ∨ s.ph = .plsL ∨ s.ph = .pdRise ∨ s.ph = .pdHold

/-- `busy` falls exactly in the state in which `rsp_valid` rises (10_state.md R20; 40_sequencer.md R72). -/
def Obligations.BusyFallsAsTheResponseRises : Prop :=
  ∀ s t : State, s.Inv → s.busy = 1 → (s.hostAt 0).rst = 0 → step s = .next t → (t.busy = 0 ↔ t.rspValid = 1)

/-- A response stays until the next accept tick or `rst`, and is then either replaced or dropped; status and data change
with a new response or `rst` only (10_state.md R19; 70_reset_and_hazards.md R151). -/
def Obligations.ResponseHoldsUntilTheNextAccept : Prop :=
  ∀ s t : State, step s = .next t → (s.hostAt 0).rst = 0 →
    (s.ph = .idle → (s.hostAt 0).cmdValid = 0 → t.outputs = s.outputs) ∧
    (s.rspValid = 1 → t.rspValid = 0 → s.ph = .idle ∧ (s.hostAt 0).cmdValid = 1) ∧
    (t.rspValid = 0 → t.rspSt = s.rspSt ∧ t.rspData = s.rspData)

/-- Outside the hold of PWRDN and RESET a high clock falls with the next tick, but for the clock a PWRDN left high: then
READ's wait and first BIT_H, and the idle block, keep it (70_reset_and_hazards.md R143, R148). -/
def Obligations.HighClockFallsAfterOneTick : Prop :=
  ∀ s t : State, s.Inv → s.sck = 1 → s.ph ≠ .idle → s.ph ≠ .wait → s.ph ≠ .pdHold → ¬ (s.ph = .bitH ∧ s.bitcnt = 24) →
    step s = .next t → t.sck = 0

/-- The clock of a conforming instantiation: the whole frame, 24 data pulses and the trailing ones of two ticks each, ends
under the power-down threshold, and so does each single high tick (00_scope.md R4; 70_reset_and_hazards.md R143, R144). -/
def Obligations.FrameEndsUnderThePowerDownThreshold : Prop :=
  ∀ (q : Params) (x : BitVec 2), q.Conforms →
    ¬ q.lastsAtLeast (2 * (24 + pulses x)) Config.powerDownMicros ∧ ¬ q.lastsAtLeast 1 Config.powerDownMicros ∧
    q.lastsAtLeast q.nPdhold Config.powerDownMicros ∧ q.lastsAtLeast q.nSettle Config.settleMicros

/-! ### The decode -/

/-- 41_protocol_reader.md R94: the source's steps give the two's-complement value, in range, and the response carries it as
the one 32-bit word of that value. -/
def Obligations.DecodeIsTwosComplement : Prop :=
  ∀ v : Sample,
    decode24 v = v.toInt ∧ decode24 v = (v.toNat : Int) - 2 ^ 24 * (v.extractLsb' 23 1).toNat ∧
    -2 ^ 23 ≤ decode24 v ∧ decode24 v ≤ 2 ^ 23 - 1 ∧
    (sext32 v).toInt = decode24 v ∧ ∀ w : Payload, w.toInt = decode24 v → w = sext32 v

/-! ### Whole commands -/

/-- 40_sequencer.md R83, the frame lemma, clauses (a) to (e): `t0` is the tick of `s`, and the state before tick `t0 + j` is
the one after `j` ticks. -/
def Obligations.FrameLemma : Prop :=
  ∀ (s : State) (k : Nat), k = pulses s.sel → s.sel ≠ 0 → s.ph = .wait → s.dinAt 0 = 0 → s.NoRst (49 + 2 * k) →
    ∀ j, 1 ≤ j → j ≤ 49 + 2 * k →
      ∃ u, ticks j s = .next u ∧ u.ph = framePhase k j ∧
        u.sck = (if j = 1 then s.sck else if j % 2 = 0 then 1 else 0) ∧
        u.sel = s.sel ∧ u.op = s.op ∧ u.rspValid = s.rspValid ∧ u.rspSt = s.rspSt ∧ u.rspData = s.rspData ∧
        (j = 49 + 2 * k → ∀ i, 1 ≤ i → i ≤ 24 → u.shr.extractLsb' (24 - i) 1 = s.dinAt (2 * i))

/-- 24 shifts replace every bit of SHR: what it held before a frame never shows again (10_state.md R12, R23). -/
def Obligations.OldShiftRegisterNeverShows : Prop :=
  ∀ (s : State) (v : Sample), s.ph = .bitH → s.bitcnt = 24 → s.NoRst 48 → ticks 48 { s with shr := v } = ticks 48 s

/-- 41_protocol_reader.md R96, READ as one step, counted from the state `t` that the accept tick leaves. With `p` high
samples before the first low one READ answers after `p + 2k + 50` more ticks; with `N` high samples it times out after
`N` more. The wire shows `24 + k` pulses; a clock that was high loses the first rising edge (R148). -/
def Obligations.ReadAsOneStep : Prop :=
  ∀ s : State, ∃ t, exec .read s = .next t ∧ t.sck = s.sck ∧
    (∀ p k, k = pulses s.sel → s.sel ≠ 0 → s.params.Allows p → t.DinHigh p → t.dinAt p = 0 → t.NoRst (p + 2 * k + 50) →
      ∃ u, ticks (p + 2 * k + 50) t = .next u ∧
        (∀ i, 1 ≤ i → i ≤ 24 → u.shr.extractLsb' (24 - i) 1 = t.dinAt (p + 2 * i)) ∧
        u.rspValid = 1 ∧ u.rspSt = 0 ∧ u.rspData = u.shr.signExtend 32 ∧
        u.op = 1 ∧ u.pollcnt = p ∧ u.bitcnt = 0 ∧ u.plscnt = 0 ∧ u.sck = 0 ∧ u.sel = s.sel ∧ u.ph = .idle ∧
        u.dlycnt = s.dlycnt ∧ u.params = s.params ∧
        fallingEdges t.sck (sckTrace (p + 2 * k + 50) t) = 24 + k ∧
        risingEdges t.sck (sckTrace (p + 2 * k + 50) t) = if s.sck = 0 then 24 + k else 23 + k) ∧
    (∀ n, 1 ≤ n → s.params.pollLimit = some n → t.DinHigh n → t.NoRst n →
      ∃ u, ticks n t = .next u ∧ u.rspValid = 1 ∧ u.rspSt = 1 ∧ u.rspData = 0 ∧ u.ph = .idle ∧
        u.op = 1 ∧ u.pollcnt = n - 1 ∧ u.sck = s.sck ∧ u.shr = s.shr ∧ u.sel = s.sel ∧ u.bitcnt = s.bitcnt ∧
        u.plscnt = s.plscnt ∧ u.dlycnt = s.dlycnt ∧ u.params = s.params)

/-- READ delivers the sample the device presents, as the integer it is (20_memory.md R33, R43; 41_protocol_reader.md R94):
that the device presents it is an assumption about DIN. -/
def Obligations.ReadDeliversThePresentedSample : Prop :=
  ∀ (s : State) (v : Sample) (k : Nat), k = pulses s.sel → s.sel ≠ 0 → s.ph = .wait → s.op = 1 → s.DevicePresents v →
    s.NoRst (50 + 2 * k) →
      ∃ u, ticks (50 + 2 * k) s = .next u ∧ u.ph = .idle ∧ u.rspValid = 1 ∧ u.rspSt = 0 ∧ u.rspData.toInt = v.toInt

/-- The reference behaviour's hang (60_exceptions.md R121; 93_implementation_defined.md U3): with `POLL_LIMIT` none and DIN
high the block stays in WAIT, busy, for as long as it lasts, without a pulse. -/
def Obligations.UnboundedWaitLastsWhileDinIsHigh : Prop :=
  ∀ (n : Nat) (s : State), s.ph = .wait → s.params.pollLimit = none → s.DinHigh n → s.NoRst n →
    ∃ u, ticks n s = .next u ∧ u.busy = 1 ∧ u.ph = .wait ∧ u.pollcnt = s.pollcnt + n ∧ u.sck = s.sck ∧ u.shr = s.shr ∧
      u.sel = s.sel ∧ u.rspValid = s.rspValid

/-- 42_gain_select.md R100, SETGAIN with a supported gain, the word `0x2000 + g`, counted from the state `t` its accept tick leaves: the new
selection's frame, the settle delay, then the response OK with data 0. -/
def Obligations.SetgainAsOneStep : Prop :=
  ∀ (s : State) (g : Nat) (x : BitVec 2), (g = 128 ∧ x = 0b01 ∨ g = 32 ∧ x = 0b10 ∨ g = 64 ∧ x = 0b11) →
    encode (.setgain g) = BitVec.ofNat 16 (0x2000 + g) ∧
    ∃ t, exec (.setgain g) s = .next t ∧ t.sel = x ∧ t.sck = 0 ∧ t.op = 2 ∧ t.pollcnt = 0 ∧ t.ph = .wait ∧ t.rspValid = 0 ∧
      ∀ p k, k = pulses x → 1 ≤ s.params.nSettle → s.params.Allows p → t.DinHigh p → t.dinAt p = 0 →
        t.NoRst (p + 2 * k + 50 + s.params.nSettle) →
          ∃ u, ticks (p + 2 * k + 50 + s.params.nSettle) t = .next u ∧
            u.rspValid = 1 ∧ u.rspSt = 0 ∧ u.rspData = 0 ∧ u.ph = .idle ∧ u.sel = x ∧ u.sck = 0 ∧ u.op = 2 ∧
            u.pollcnt = p ∧ u.bitcnt = 0 ∧ u.plscnt = 0 ∧ u.dlycnt = 1 ∧ u.params = s.params ∧
            (∀ i, 1 ≤ i → i ≤ 24 → u.shr.extractLsb' (24 - i) 1 = t.dinAt (p + 2 * i)) ∧
            risingEdges 0 (sckTrace (p + 2 * k + 50 + s.params.nSettle) t) = 24 + k ∧
            ∀ j, p + 2 * k + 50 ≤ j → j < p + 2 * k + 50 + s.params.nSettle →
              ∃ w, ticks j t = .next w ∧ w.ph = .settle ∧ w.rspValid = 0

/-- SETGAIN whose throwaway read times out keeps the NEW selection and a low clock, emits no pulse and runs no delay
(42_gain_select.md section 1). What the source leaves unsaid here is the spec's own decision D12 in 92_eei_decisions.md
(log 16). The next frame of any command sends that selection's pulses: `FrameLemma`, `ReadAsOneStep`. -/
def Obligations.TimedOutSetgainKeepsTheNewSelection : Prop :=
  ∀ (s : State) (g : Nat) (x : BitVec 2), (g = 128 ∧ x = 0b01 ∨ g = 32 ∧ x = 0b10 ∨ g = 64 ∧ x = 0b11) →
    ∃ t, exec (.setgain g) s = .next t ∧
      ∀ n, 1 ≤ n → s.params.pollLimit = some n → t.DinHigh n → t.NoRst n →
        ∃ u, ticks n t = .next u ∧ u.rspValid = 1 ∧ u.rspSt = 1 ∧ u.rspData = 0 ∧ u.ph = .idle ∧ u.sel = x ∧ u.sck = 0 ∧
          u.shr = s.shr ∧ u.dlycnt = s.dlycnt ∧ sckTrace n t = List.replicate n 0 ∧
          ∃ a, exec .getgain u = .next a ∧ a.rspSt = 0 ∧ a.rspData = BitVec.ofNat 32 g

/-- 43_power.md R110, PWRDN, `0x4000`, counted from the state `t` its accept tick leaves: low for that tick, high from the
next, and `N_PDHOLD` ticks later, at least 60 µs in a conforming instantiation, the response, with the clock still high. It
stays high, and the response stays, for as long as the host then presents no command and no `rst`. -/
def Obligations.PwrdnHoldsTheClockHigh : Prop :=
  encode .pwrdn = 0x4000 ∧ ∀ s : State, ∃ t, exec .pwrdn s = .next t ∧ t.sck = 0 ∧ t.rspValid = 0 ∧
    (s.params.Conforms → s.params.lastsAtLeast s.params.nPdhold 60) ∧
    (1 ≤ s.params.nPdhold → t.NoRst (s.params.nPdhold + 1) →
      (∀ j, 1 ≤ j → j ≤ s.params.nPdhold → ∃ w, ticks j t = .next w ∧ w.sck = 1 ∧ w.ph = .pdHold ∧ w.rspValid = 0) ∧
      ∃ u, ticks (s.params.nPdhold + 1) t = .next u ∧ u.rspValid = 1 ∧ u.rspSt = 0 ∧ u.rspData = 0 ∧ u.ph = .idle ∧
        u.sck = 1 ∧ u.op = 4 ∧ u.dlycnt = 1 ∧ u.sel = s.sel ∧ u.shr = s.shr ∧ u.bitcnt = s.bitcnt ∧
        u.plscnt = s.plscnt ∧ u.pollcnt = s.pollcnt ∧ u.params = s.params ∧
        ∀ m, (∀ j, j < m → (u.hostAt j).rst = 0 ∧ (u.hostAt j).cmdValid = 0) →
          ∃ w, ticks m u = .next w ∧ w.sck = 1 ∧ w.ph = .idle ∧ w.outputs = u.outputs)

/-- 43_power.md R111, PWRUP, `0x5000`, counted from the state `t` its accept tick leaves: the clock low for `N_SETTLE`
ticks, at least 0.4 s in a conforming instantiation, then the response. -/
def Obligations.PwrupWaitsTheSettleDelay : Prop :=
  encode .pwrup = 0x5000 ∧ ∀ s : State, ∃ t, exec .pwrup s = .next t ∧ t.sck = 0 ∧ t.rspValid = 0 ∧
    (s.params.Conforms → s.params.lastsAtLeast s.params.nSettle 400000) ∧
    (1 ≤ s.params.nSettle → t.NoRst s.params.nSettle →
      (∀ j, j < s.params.nSettle → ∃ w, ticks j t = .next w ∧ w.sck = 0 ∧ w.ph = .settle ∧ w.rspValid = 0) ∧
      ∃ u, ticks s.params.nSettle t = .next u ∧ u.rspValid = 1 ∧ u.rspSt = 0 ∧ u.rspData = 0 ∧ u.ph = .idle ∧
        u.sck = 0 ∧ u.op = 5 ∧ u.dlycnt = 1 ∧ u.sel = s.sel ∧ u.shr = s.shr ∧ u.bitcnt = s.bitcnt ∧
        u.plscnt = s.plscnt ∧ u.pollcnt = s.pollcnt ∧ u.params = s.params)

/-- 43_power.md R112, RESET, `0x6000`, counted from the state `t` its accept tick leaves: the clock is high for exactly `N_PDHOLD`
ticks, then low for `N_SETTLE` ticks, then one response; no register of the block is reset. -/
def Obligations.ResetCommandCyclesTheClock : Prop :=
  encode .reset = 0x6000 ∧ ∀ s : State, ∃ t, exec .reset s = .next t ∧ t.sck = 0 ∧ t.rspValid = 0 ∧
    (1 ≤ s.params.nPdhold → 1 ≤ s.params.nSettle → t.NoRst (s.params.nPdhold + s.params.nSettle + 1) →
      sckTrace (s.params.nPdhold + s.params.nSettle + 1) t =
        List.replicate s.params.nPdhold 1 ++ List.replicate (s.params.nSettle + 1) 0 ∧
      (∀ j, j < s.params.nPdhold + s.params.nSettle + 1 → ∃ w, ticks j t = .next w ∧ w.busy = 1 ∧ w.rspValid = 0) ∧
      ∃ u, ticks (s.params.nPdhold + s.params.nSettle + 1) t = .next u ∧ u.rspValid = 1 ∧ u.rspSt = 0 ∧ u.rspData = 0 ∧
        u.ph = .idle ∧ u.sck = 0 ∧ u.op = 6 ∧ u.dlycnt = 1 ∧ u.sel = s.sel ∧ u.shr = s.shr ∧ u.bitcnt = s.bitcnt ∧
        u.plscnt = s.plscnt ∧ u.pollcnt = s.pollcnt ∧ u.params = s.params)

/-! ### The far-end device as observed -/

/-- PWRDN puts the device to sleep: when it responds, SCK has been high for the power-down threshold
(20_memory.md R45; 60_exceptions.md R131). What the observer says of the device is the model's choice (log 18). -/
def Obligations.PwrdnPutsTheDeviceToSleep : Prop :=
  ∀ (s : State) (v : DeviceView), s.ph = .idle → s.Presents .pwrdn → s.params.Conforms → s.NoRst (s.params.nPdhold + 2) →
    ∃ u, ticks (s.params.nPdhold + 2) s = .next u ∧ u.ph = .idle ∧ u.rspValid = 1 ∧ u.rspSt = 0 ∧ u.rspData = 0 ∧
      (observeTicks (s.params.nPdhold + 2) s v).asleep = true

/-- RESET recovers the device from every undefined state: when it responds the device is in step, awake and settled, and the
bus counts as used, whatever was known before (43_power.md R112; 20_memory.md R35, R46, R47). What the observer says of
the device is the model's choice (log 18). -/
def Obligations.ResetCommandRecoversTheDevice : Prop :=
  ∀ (s : State) (v : DeviceView), s.ph = .idle → s.Presents .reset → s.params.Conforms →
    s.NoRst (s.params.nPdhold + s.params.nSettle + 2) →
      ∃ u, ticks (s.params.nPdhold + s.params.nSettle + 2) s = .next u ∧ u.ph = .idle ∧
        u.rspValid = 1 ∧ u.rspSt = 0 ∧ u.rspData = 0 ∧
        (observeTicks (s.params.nPdhold + s.params.nSettle + 2) s v).inStep = true ∧
        (observeTicks (s.params.nPdhold + s.params.nSettle + 2) s v).asleep = false ∧
        (observeTicks (s.params.nPdhold + s.params.nSettle + 2) s v).idle = 0 ∧
        (observeTicks (s.params.nPdhold + s.params.nSettle + 2) s v).Settled s.params

/-- The second half of the boot order (70_reset_and_hazards.md R142): SETGAIN sends a device that is in step the new
selection and waits it out, so that the next sample is one of that selection (20_memory.md R44, R46; R147). The bus must
not have been idle too long when its frame begins (R146). What the observer says of the device is the model's choice
(log 18), and what "too long" is stays free (log 21). -/
def Obligations.SetgainMakesSamplesTrusted : Prop :=
  ∀ (s : State) (v : DeviceView) (g : Nat) (x : BitVec 2) (p k : Nat),
    s.ph = .idle → s.Presents (.setgain g) → (g = 128 ∧ x = 0b01 ∨ g = 32 ∧ x = 0b10 ∨ g = 64 ∧ x = 0b11) →
    k = pulses x → s.params.Conforms → s.params.Allows p → (∀ j, j < p → s.dinAt (j + 1) = 1) → s.dinAt (p + 1) = 0 →
    s.NoRst (p + 2 * k + 51 + s.params.nSettle) → v.inStep = true → ¬ s.params.IdleTooLong (v.idle + p + 2) →
      ∃ u, ticks (p + 2 * k + 51 + s.params.nSettle) s = .next u ∧ u.ph = .idle ∧
        u.rspValid = 1 ∧ u.rspSt = 0 ∧ u.rspData = 0 ∧ u.sel = x ∧
        (observeTicks (p + 2 * k + 51 + s.params.nSettle) s v).Trusted s.params x

/-- 70_reset_and_hazards.md R146, 20_memory.md R47: once the bus has been idle too long no sample is trusted, of whatever
selection, and the block says nothing of it: its ports are as before. What the observer says of the device is the model's
choice (log 18), and what "too long" is stays free (log 21). -/
def Obligations.TooLongIdleBusIsNotTrusted : Prop :=
  ∀ (n : Nat) (s : State) (v : DeviceView) (x : BitVec 2), s.ph = .idle →
    (∀ j, j < n → (s.hostAt j).rst = 0 ∧ (s.hostAt j).cmdValid = 0) → s.params.IdleTooLong (v.idle + n) →
      ∃ u, ticks n s = .next u ∧ u.outputs = s.outputs ∧ ¬ (observeTicks n s v).Trusted u.params x

/-- The events after which the source vouches for nothing: `rst` (70_reset_and_hazards.md R142), a frame begun with SCK high
(R148) or with a clock too slow for the power-down threshold (R144), a failed ready wait and a second PWRDN (93_implementation_defined.md U1, V6), a bus idle too long (R146). The
selection is unknown too, and the settle delay starts anew. The observer, and `rst` in every phase, are the model's choice
(log 18). -/
def Obligations.UndefinedEventsLoseTheDevice : Prop :=
  ∀ (s t : State) (v : DeviceView) (x : BitVec 2), step s = .next t →
    ((s.hostAt 0).rst = 1 ∨ (s.ph = .wait ∧ t.ph = .bitH ∧ s.sck = 1) ∨
      (s.ph = .wait ∧ t.ph = .bitH ∧ 60 * s.params.tickDen ≤ 54 * s.params.tickNum) ∨
      (s.ph = .wait ∧ t.rspValid = 1 ∧ t.ph = .idle) ∨
      (s.ph = .idle ∧ s.Presents .pwrdn ∧ s.sck = 1) ∨
      ((s.ph = .idle ∨ s.ph = .wait) ∧ s.params.IdleTooLong (v.idle + 1))) →
      (v.observe s t).inStep = false ∧ (v.observe s t).sel = none ∧ (v.observe s t).since = 0 ∧
      ¬ (v.observe s t).Trusted t.params x

/-- A device that is out of step stays so, and its selection unknown, through every tick but the last of a RESET command
(20_memory.md R35; 43_power.md R112). The observer is the model's choice (log 18). -/
def Obligations.OnlyTheResetCommandRecoversTheDevice : Prop :=
  ∀ (s t : State) (v : DeviceView), step s = .next t → v.inStep = false →
    ((v.observe s t).inStep = true → (s.hostAt 0).rst = 0 ∧ s.ph = .settle ∧ s.op = 6 ∧ t.ph = .idle ∧ t.rspValid = 1) ∧
    ((v.observe s t).inStep = false → (v.observe s t).sel = none)

/-- 70_reset_and_hazards.md R148 and R152: a READ accepted with SCK high answers OK like any other, and its sample, and every
one until a RESET command, is not trusted. The observer is the model's choice (log 18). -/
def Obligations.ReadWithClockHighAnswersOkUntrusted : Prop :=
  ∀ (s : State) (v : DeviceView) (x : BitVec 2) (p k : Nat),
    s.ReadsWithClockHigh → k = pulses s.sel → s.sel ≠ 0 → s.params.Allows p → (∀ j, j < p → s.dinAt (j + 1) = 1) →
    s.dinAt (p + 1) = 0 → s.NoRst (p + 2 * k + 51) →
      ∃ u, ticks (p + 2 * k + 51) s = .next u ∧ u.ph = .idle ∧ u.rspValid = 1 ∧ u.rspSt = 0 ∧
        u.rspData = u.shr.signExtend 32 ∧ (observeTicks (p + 2 * k + 51) s v).inStep = false ∧
        (observeTicks (p + 2 * k + 51) s v).sel = none ∧ ¬ (observeTicks (p + 2 * k + 51) s v).Trusted u.params x

/-- 70_reset_and_hazards.md R143 to R145, R152, with the times of 00_scope.md R4: where a frame is not under the power-down
threshold, or the hold or the settle delay is too short, no sample is ever trusted, whatever commands ran, and no tick
mends it: each step writes no parameter. The observer is the model's choice (log 18). -/
def Obligations.BrokenTimingIsNeverTrusted : Prop :=
  ∀ (n : Nat) (s u : State) (v : DeviceView) (x : BitVec 2), ticks n s = .next u →
    (60 * s.params.tickDen ≤ 54 * s.params.tickNum ∨ s.params.nPdhold * s.params.tickNum < 60 * s.params.tickDen ∨
      s.params.nSettle * s.params.tickNum < 400000 * s.params.tickDen) →
      ¬ (observeTicks n s v).Trusted u.params x
end

