-- ==== Sys2Proof/Laws/Device.lean ====
section
/-! SUPPORT. The observer of the clock line: one lemma per field of an observed tick, and what each of its parts can do. -/

namespace Sys2Proof.Machine

variable {v : DeviceView} {s t : State}

@[simp] theorem observe_sel : (v.observe s t).sel = v.selAfter s t := rfl
@[simp] theorem observe_asleep : (v.observe s t).asleep = v.asleepAfter s := rfl
@[simp] theorem observe_inStep : (v.observe s t).inStep = v.inStepAfter s t := rfl
@[simp] theorem observe_high : (v.observe s t).high = v.highAfter s := rfl
@[simp] theorem observe_since : (v.observe s t).since = if v.unsettles s t then 0 else v.since + 1 := rfl
@[simp] theorem observe_edges :
    (v.observe s t).edges =
      if beginsFrame s t then 0 else v.edges + (if s.sck = 0 ∧ t.sck = 1 then 1 else 0) := rfl
@[simp] theorem observe_idle : (v.observe s t).idle = v.idleAfter s := rfl

/-- A bus in use has not been idle too long. -/
@[simp] theorem not_idleTooLong_zero (q : Params) : ¬ q.IdleTooLong 0 := by simp [Params.IdleTooLong]

/-- Idle for longer is idle too long, if it was already. -/
theorem idleTooLong_mono {q : Params} {m n : Nat} (hmn : m ≤ n) (h : q.IdleTooLong m) : q.IdleTooLong n :=
  Nat.lt_of_lt_of_le h (Nat.mul_le_mul_right _ hmn)

theorem idleAfter_of_usesBus (h : s.usesBus = true) : v.idleAfter s = 0 := by simp [DeviceView.idleAfter, h]

theorem idleAfter_of_idleBus (h : s.usesBus = false) : v.idleAfter s = v.idle + 1 := by simp [DeviceView.idleAfter, h]

/-- What a tick that loses the device does. -/
theorem loses_iff : v.loses s t = true ↔
    (s.hostAt 0).rst = 1 ∨ (s.ph = .wait ∧ t.ph = .bitH ∧ (s.sck = 1 ∨ ¬ s.params.FrameFits)) ∨ (s.ph = .wait ∧ t.ph = .idle) ∨
    (s.ph = .idle ∧ t.ph = .pdRise ∧ t.op = opPwrdn ∧ s.sck = 1) ∨ s.params.IdleTooLong (v.idleAfter s) := by
  simp [DeviceView.loses, beginsFrame, and_assoc, or_assoc]

/-- The device is in step after a tick that does not lose it and either ends a RESET command or finds it in step. -/
theorem inStepAfter_iff : v.inStepAfter s t = true ↔
    v.loses s t = false ∧ (endsReset s t = true ∨ v.inStep = true) := by
  simp [DeviceView.inStepAfter]

/-- A device out of step has no known selection. -/
theorem selAfter_of_outOfStep (h : v.inStepAfter s t = false) : v.selAfter s t = none := by
  simp [DeviceView.selAfter, h]

/-- A lost device is out of step, and its settle delay starts anew. -/
theorem inStepAfter_of_loses (h : v.loses s t = true) : v.inStepAfter s t = false := by
  simp [DeviceView.inStepAfter, h]

theorem unsettles_of_loses (h : v.loses s t = true) : v.unsettles s t = true := by
  simp [DeviceView.unsettles, h]

/-- No sample is trusted of an instantiation that breaks a time of 00_scope.md R4. -/
theorem not_trusted_of_not_conforms {q : Params} {x : BitVec 2} (h : ¬ q.Conforms) : ¬ v.Trusted q x :=
  fun ht => h ht.conforms

/-- No sample of a device out of step is trusted. -/
theorem not_trusted_of_outOfStep {q : Params} {x : BitVec 2} (h : v.inStep = false) : ¬ v.Trusted q x :=
  fun ht => by simp [ht.inStep] at h

end Sys2Proof.Machine
end

