-- ==== Sys2Proof/Laws/Operands.lean ====
section
/-! SUPPORT. What the shift, the selection tables and the sample's decoding do, each said once. -/

namespace Sys2Proof.Machine

/-- The shift, bit by bit: the new bit at place 0, every older bit one place up. -/
theorem shiftIn_getLsbD (v : Sample) (d : Bit) (j : Nat) (h : j < 24) :
    (shiftIn v d).getLsbD j = if j = 0 then d.getLsbD 0 else v.getLsbD (j - 1) := by
  unfold shiftIn
  refine (BitVec.getLsbD_append (n := 23) (m := 1)).trans ?_
  by_cases h0 : j = 0
  · simp [h0]
  · simp [h0, BitVec.getLsbD_extractLsb', show ¬ j < 1 by omega]
    omega

/-- The shift puts the new bit at bit 0. -/
theorem shiftIn_newest (v : Sample) (d : Bit) : (shiftIn v d).extractLsb' 0 1 = d := by
  ext i hi
  obtain rfl : i = 0 := by omega
  simp [← BitVec.getLsbD_eq_getElem, shiftIn_getLsbD]

/-- The shift moves every older bit one place up. -/
theorem shiftIn_older (v : Sample) (d : Bit) (j : Nat) (h : j + 1 < 24) :
    (shiftIn v d).extractLsb' (j + 1) 1 = v.extractLsb' j 1 := by
  ext i hi
  obtain rfl : i = 0 := by omega
  simp [← BitVec.getLsbD_eq_getElem, shiftIn_getLsbD, h]

/-- A selection is armed by a gain exactly if it is the one the table gives. -/
theorem selOf_eq_some {g : Nat} {x : BitVec 2} :
    selOf g = some x ↔ g = 128 ∧ x = 0b01 ∨ g = 32 ∧ x = 0b10 ∨ g = 64 ∧ x = 0b11 := by
  unfold selOf
  split
  · subst_vars; constructor <;> simp +contextual [eq_comm]
  · split
    · subst_vars; constructor <;> simp +contextual [eq_comm]
    · split
      · subst_vars; constructor <;> simp +contextual [eq_comm]
      · simp; omega

/-- No gain arms the selection 0b00. -/
theorem selOf_ne_zero {g : Nat} {x : BitVec 2} (h : selOf g = some x) : x ≠ 0 := by
  rcases selOf_eq_some.mp h with ⟨-, rfl⟩ | ⟨-, rfl⟩ | ⟨-, rfl⟩ <;> decide

/-- Outside the three legal gains there is no selection. -/
theorem selOf_eq_none {g : Nat} : selOf g = none ↔ g ≠ 128 ∧ g ≠ 64 ∧ g ≠ 32 := by
  unfold selOf
  split
  · simp [*]
  · split
    · simp [*]
    · split <;> simp [*]

/-- GETGAIN's table answers exactly for an armed selection. -/
theorem gainOf_isSome (x : BitVec 2) : (gainOf x).isSome = true ↔ x ≠ 0 := by
  revert x; decide

/-- A selection is armed for 1 to 3 pulses. -/
theorem pulses_bounds {x : BitVec 2} (h : x ≠ 0) : 1 ≤ pulses x ∧ pulses x ≤ 3 := by
  revert x; decide

end Sys2Proof.Machine
end

