-- ==== Sys2Proof/Laws/PerInstr.lean ====
section
/-! SUPPORT. Facts about every command as syntax: the fields of its encoding and its row of the opcode table. -/

namespace Sys2Proof.Laws.CommandFields

/-- The encoding of a well-formed command carries its opcode and its operand in their fields (30_encoding.md R50), is a
word of the table row that bears its mnemonic, and of no other row. -/
def Statement (i : Instr) : Prop :=
  i.WellFormed →
    opcField (encode i) = i.opcode ∧ opndField (encode i) = i.operand ∧
    ∀ r ∈ opcodeTable, r.hit (encode i) = true ↔ r.mnemonic = i.mnemonic

theorem read : Statement .read := by intro _; decide
theorem getgain : Statement .getgain := by intro _; decide
theorem pwrdn : Statement .pwrdn := by intro _; decide
theorem pwrup : Statement .pwrup := by intro _; decide
theorem reset : Statement .reset := by intro _; decide

/-- SETGAIN's word is `0x2000 + g` (42_gain_select.md R100). -/
theorem encode_setgain_toNat {g : Nat} (h : g < 4096) : (encode (.setgain g)).toNat = 8192 + g := by
  have e : (encode (.setgain g)).toNat = (0x2#4).toNat <<< 12 ||| (BitVec.ofNat 12 g).toNat :=
    BitVec.toNat_append (0x2#4) (BitVec.ofNat 12 g)
  have m : g % 2 ^ 12 = g := Nat.mod_eq_of_lt (by omega)
  rw [e, BitVec.toNat_ofNat (w := 12), m, ← Nat.shiftLeft_add_eq_or_of_lt (by omega)]
  simp [Nat.shiftLeft_eq]

theorem setgain (g : Nat) : Statement (.setgain g) := by
  intro h
  have hg : g < 4096 := by simpa [Instr.WellFormed, Instr.wellFormed] using h
  have hn := encode_setgain_toNat hg
  have h1 : opcField (encode (.setgain g)) = 0x2#4 := by
    apply BitVec.eq_of_toNat_eq
    simp [opcField, hn, Nat.shiftRight_eq_div_pow]
    omega
  have h2 : opndField (encode (.setgain g)) = g := by
    simp [opndField, hn]
    omega
  refine ⟨h1, h2, ?_⟩
  have whole : encode (.setgain g) &&& 0xFFFF = encode (.setgain g) := by
    exact BitVec.and_allOnes
  have other : ∀ x : Word, x.toNat < 8192 ∨ 12288 ≤ x.toNat → encode (.setgain g) ≠ x := by
    rintro x hx rfl
    omega
  have own : encode (.setgain g) &&& 0xF000 = 0x2000 := by
    apply BitVec.eq_of_getElem_eq
    intro i hi
    have hb : ∀ j, j < 4 → (encode (.setgain g)).getLsbD (12 + j) = (0x2#4).getLsbD j := by
      intro j hj
      rw [← h1]
      simp [opcField, hj]
    have b0 := hb 0 (by omega)
    have b1 := hb 1 (by omega)
    have b2 := hb 2 (by omega)
    have b3 := hb 3 (by omega)
    interval_cases i <;> simp_all [← BitVec.getLsbD_eq_getElem]
  intro r hr
  simp only [opcodeTable, List.mem_cons, List.not_mem_nil, or_false] at hr
  rcases hr with rfl | rfl | rfl | rfl | rfl | rfl <;>
    simp only [OpcodeRow.hit, beq_iff_eq, Instr.mnemonic]
  · rw [whole]; exact iff_of_false (other _ (by decide)) (by decide)
  · exact iff_of_true own trivial
  · rw [whole]; exact iff_of_false (other _ (by decide)) (by decide)
  · rw [whole]; exact iff_of_false (other _ (by decide)) (by decide)
  · rw [whole]; exact iff_of_false (other _ (by decide)) (by decide)
  · rw [whole]; exact iff_of_false (other _ (by decide)) (by decide)

end Sys2Proof.Laws.CommandFields
end

