-- ==== Sys2Proof/Laws/State.lean ====
section
/-! SUPPORT. One lemma per field per update of the state, so that no proof unfolds a record update, and the inputs each
update leaves to come. -/

namespace Sys2Proof.Machine

variable (s : State)

section
@[simp] theorem State.advance_sck : (s.advance).sck = s.sck := rfl
@[simp] theorem State.advance_shr : (s.advance).shr = s.shr := rfl
@[simp] theorem State.advance_rspData : (s.advance).rspData = s.rspData := rfl
@[simp] theorem State.advance_sel : (s.advance).sel = s.sel := rfl
@[simp] theorem State.advance_ph : (s.advance).ph = s.ph := rfl
@[simp] theorem State.advance_bitcnt : (s.advance).bitcnt = s.bitcnt := rfl
@[simp] theorem State.advance_plscnt : (s.advance).plscnt = s.plscnt := rfl
@[simp] theorem State.advance_op : (s.advance).op = s.op := rfl
@[simp] theorem State.advance_pollcnt : (s.advance).pollcnt = s.pollcnt := rfl
@[simp] theorem State.advance_dlycnt : (s.advance).dlycnt = s.dlycnt := rfl
@[simp] theorem State.advance_rspValid : (s.advance).rspValid = s.rspValid := rfl
@[simp] theorem State.advance_rspSt : (s.advance).rspSt = s.rspSt := rfl
@[simp] theorem State.advance_params : (s.advance).params = s.params := rfl
@[simp] theorem State.advance_now : (s.advance).now = s.now + 1 := rfl
@[simp] theorem State.advance_host : (s.advance).host = s.host.tail := rfl
@[simp] theorem State.advance_din : (s.advance).din = s.din.tail := rfl
end

section
variable (b : Bit)
@[simp] theorem State.pinWriteSck_sck : (s.pinWriteSck b).sck = b := rfl
@[simp] theorem State.pinWriteSck_shr : (s.pinWriteSck b).shr = s.shr := rfl
@[simp] theorem State.pinWriteSck_rspData : (s.pinWriteSck b).rspData = s.rspData := rfl
@[simp] theorem State.pinWriteSck_sel : (s.pinWriteSck b).sel = s.sel := rfl
@[simp] theorem State.pinWriteSck_ph : (s.pinWriteSck b).ph = s.ph := rfl
@[simp] theorem State.pinWriteSck_bitcnt : (s.pinWriteSck b).bitcnt = s.bitcnt := rfl
@[simp] theorem State.pinWriteSck_plscnt : (s.pinWriteSck b).plscnt = s.plscnt := rfl
@[simp] theorem State.pinWriteSck_op : (s.pinWriteSck b).op = s.op := rfl
@[simp] theorem State.pinWriteSck_pollcnt : (s.pinWriteSck b).pollcnt = s.pollcnt := rfl
@[simp] theorem State.pinWriteSck_dlycnt : (s.pinWriteSck b).dlycnt = s.dlycnt := rfl
@[simp] theorem State.pinWriteSck_rspValid : (s.pinWriteSck b).rspValid = s.rspValid := rfl
@[simp] theorem State.pinWriteSck_rspSt : (s.pinWriteSck b).rspSt = s.rspSt := rfl
@[simp] theorem State.pinWriteSck_params : (s.pinWriteSck b).params = s.params := rfl
@[simp] theorem State.pinWriteSck_now : (s.pinWriteSck b).now = s.now := rfl
@[simp] theorem State.pinWriteSck_host : (s.pinWriteSck b).host = s.host := rfl
@[simp] theorem State.pinWriteSck_din : (s.pinWriteSck b).din = s.din := rfl
@[simp] theorem State.pinWriteSck_hostAt (k : Nat) : (s.pinWriteSck b).hostAt k = s.hostAt k := rfl
@[simp] theorem State.pinWriteSck_dinAt (k : Nat) : (s.pinWriteSck b).dinAt k = s.dinAt k := rfl
end

section
variable (p : Phase)
@[simp] theorem State.goTo_sck : (s.goTo p).sck = s.sck := rfl
@[simp] theorem State.goTo_shr : (s.goTo p).shr = s.shr := rfl
@[simp] theorem State.goTo_rspData : (s.goTo p).rspData = s.rspData := rfl
@[simp] theorem State.goTo_sel : (s.goTo p).sel = s.sel := rfl
@[simp] theorem State.goTo_ph : (s.goTo p).ph = p := rfl
@[simp] theorem State.goTo_bitcnt : (s.goTo p).bitcnt = s.bitcnt := rfl
@[simp] theorem State.goTo_plscnt : (s.goTo p).plscnt = s.plscnt := rfl
@[simp] theorem State.goTo_op : (s.goTo p).op = s.op := rfl
@[simp] theorem State.goTo_pollcnt : (s.goTo p).pollcnt = s.pollcnt := rfl
@[simp] theorem State.goTo_dlycnt : (s.goTo p).dlycnt = s.dlycnt := rfl
@[simp] theorem State.goTo_rspValid : (s.goTo p).rspValid = s.rspValid := rfl
@[simp] theorem State.goTo_rspSt : (s.goTo p).rspSt = s.rspSt := rfl
@[simp] theorem State.goTo_params : (s.goTo p).params = s.params := rfl
@[simp] theorem State.goTo_now : (s.goTo p).now = s.now := rfl
@[simp] theorem State.goTo_host : (s.goTo p).host = s.host := rfl
@[simp] theorem State.goTo_din : (s.goTo p).din = s.din := rfl
@[simp] theorem State.goTo_hostAt (k : Nat) : (s.goTo p).hostAt k = s.hostAt k := rfl
@[simp] theorem State.goTo_dinAt (k : Nat) : (s.goTo p).dinAt k = s.dinAt k := rfl
end

section
@[simp] theorem State.dropResponse_sck : (s.dropResponse).sck = s.sck := rfl
@[simp] theorem State.dropResponse_shr : (s.dropResponse).shr = s.shr := rfl
@[simp] theorem State.dropResponse_rspData : (s.dropResponse).rspData = s.rspData := rfl
@[simp] theorem State.dropResponse_sel : (s.dropResponse).sel = s.sel := rfl
@[simp] theorem State.dropResponse_ph : (s.dropResponse).ph = s.ph := rfl
@[simp] theorem State.dropResponse_bitcnt : (s.dropResponse).bitcnt = s.bitcnt := rfl
@[simp] theorem State.dropResponse_plscnt : (s.dropResponse).plscnt = s.plscnt := rfl
@[simp] theorem State.dropResponse_op : (s.dropResponse).op = s.op := rfl
@[simp] theorem State.dropResponse_pollcnt : (s.dropResponse).pollcnt = s.pollcnt := rfl
@[simp] theorem State.dropResponse_dlycnt : (s.dropResponse).dlycnt = s.dlycnt := rfl
@[simp] theorem State.dropResponse_rspValid : (s.dropResponse).rspValid = 0 := rfl
@[simp] theorem State.dropResponse_rspSt : (s.dropResponse).rspSt = s.rspSt := rfl
@[simp] theorem State.dropResponse_params : (s.dropResponse).params = s.params := rfl
@[simp] theorem State.dropResponse_now : (s.dropResponse).now = s.now := rfl
@[simp] theorem State.dropResponse_host : (s.dropResponse).host = s.host := rfl
@[simp] theorem State.dropResponse_din : (s.dropResponse).din = s.din := rfl
@[simp] theorem State.dropResponse_hostAt (k : Nat) : (s.dropResponse).hostAt k = s.hostAt k := rfl
@[simp] theorem State.dropResponse_dinAt (k : Nat) : (s.dropResponse).dinAt k = s.dinAt k := rfl
end

section
variable (st : Status) (x : Payload)
@[simp] theorem State.respond_sck : (s.respond st x).sck = s.sck := rfl
@[simp] theorem State.respond_shr : (s.respond st x).shr = s.shr := rfl
@[simp] theorem State.respond_rspData : (s.respond st x).rspData = x := rfl
@[simp] theorem State.respond_sel : (s.respond st x).sel = s.sel := rfl
@[simp] theorem State.respond_ph : (s.respond st x).ph = s.ph := rfl
@[simp] theorem State.respond_bitcnt : (s.respond st x).bitcnt = s.bitcnt := rfl
@[simp] theorem State.respond_plscnt : (s.respond st x).plscnt = s.plscnt := rfl
@[simp] theorem State.respond_op : (s.respond st x).op = s.op := rfl
@[simp] theorem State.respond_pollcnt : (s.respond st x).pollcnt = s.pollcnt := rfl
@[simp] theorem State.respond_dlycnt : (s.respond st x).dlycnt = s.dlycnt := rfl
@[simp] theorem State.respond_rspValid : (s.respond st x).rspValid = 1 := rfl
@[simp] theorem State.respond_rspSt : (s.respond st x).rspSt = st.code := rfl
@[simp] theorem State.respond_params : (s.respond st x).params = s.params := rfl
@[simp] theorem State.respond_now : (s.respond st x).now = s.now := rfl
@[simp] theorem State.respond_host : (s.respond st x).host = s.host := rfl
@[simp] theorem State.respond_din : (s.respond st x).din = s.din := rfl
@[simp] theorem State.respond_hostAt (k : Nat) : (s.respond st x).hostAt k = s.hostAt k := rfl
@[simp] theorem State.respond_dinAt (k : Nat) : (s.respond st x).dinAt k = s.dinAt k := rfl
end

section
variable (e : BlockError)
@[simp] theorem State.raise_sck : (s.raise e).sck = s.sck := rfl
@[simp] theorem State.raise_shr : (s.raise e).shr = s.shr := rfl
@[simp] theorem State.raise_rspData : (s.raise e).rspData = 0 := rfl
@[simp] theorem State.raise_sel : (s.raise e).sel = s.sel := rfl
@[simp] theorem State.raise_ph : (s.raise e).ph = .idle := rfl
@[simp] theorem State.raise_bitcnt : (s.raise e).bitcnt = s.bitcnt := rfl
@[simp] theorem State.raise_plscnt : (s.raise e).plscnt = s.plscnt := rfl
@[simp] theorem State.raise_op : (s.raise e).op = s.op := rfl
@[simp] theorem State.raise_pollcnt : (s.raise e).pollcnt = s.pollcnt := rfl
@[simp] theorem State.raise_dlycnt : (s.raise e).dlycnt = s.dlycnt := rfl
@[simp] theorem State.raise_rspValid : (s.raise e).rspValid = 1 := rfl
@[simp] theorem State.raise_rspSt : (s.raise e).rspSt = e.status.code := rfl
@[simp] theorem State.raise_params : (s.raise e).params = s.params := rfl
@[simp] theorem State.raise_now : (s.raise e).now = s.now := rfl
@[simp] theorem State.raise_host : (s.raise e).host = s.host := rfl
@[simp] theorem State.raise_din : (s.raise e).din = s.din := rfl
@[simp] theorem State.raise_hostAt (k : Nat) : (s.raise e).hostAt k = s.hostAt k := rfl
@[simp] theorem State.raise_dinAt (k : Nat) : (s.raise e).dinAt k = s.dinAt k := rfl
end

section
variable (x : Payload)
@[simp] theorem State.finish_sck : (s.finish x).sck = s.sck := rfl
@[simp] theorem State.finish_shr : (s.finish x).shr = s.shr := rfl
@[simp] theorem State.finish_rspData : (s.finish x).rspData = x := rfl
@[simp] theorem State.finish_sel : (s.finish x).sel = s.sel := rfl
@[simp] theorem State.finish_ph : (s.finish x).ph = .idle := rfl
@[simp] theorem State.finish_bitcnt : (s.finish x).bitcnt = s.bitcnt := rfl
@[simp] theorem State.finish_plscnt : (s.finish x).plscnt = s.plscnt := rfl
@[simp] theorem State.finish_op : (s.finish x).op = s.op := rfl
@[simp] theorem State.finish_pollcnt : (s.finish x).pollcnt = s.pollcnt := rfl
@[simp] theorem State.finish_dlycnt : (s.finish x).dlycnt = s.dlycnt := rfl
@[simp] theorem State.finish_rspValid : (s.finish x).rspValid = 1 := rfl
@[simp] theorem State.finish_rspSt : (s.finish x).rspSt = Status.ok.code := rfl
@[simp] theorem State.finish_params : (s.finish x).params = s.params := rfl
@[simp] theorem State.finish_now : (s.finish x).now = s.now := rfl
@[simp] theorem State.finish_host : (s.finish x).host = s.host := rfl
@[simp] theorem State.finish_din : (s.finish x).din = s.din := rfl
@[simp] theorem State.finish_hostAt (k : Nat) : (s.finish x).hostAt k = s.hostAt k := rfl
@[simp] theorem State.finish_dinAt (k : Nat) : (s.finish x).dinAt k = s.dinAt k := rfl
end

section
variable (n : BitVec 3)
@[simp] theorem State.own_sck : (s.own n).sck = s.sck := rfl
@[simp] theorem State.own_shr : (s.own n).shr = s.shr := rfl
@[simp] theorem State.own_rspData : (s.own n).rspData = s.rspData := rfl
@[simp] theorem State.own_sel : (s.own n).sel = s.sel := rfl
@[simp] theorem State.own_ph : (s.own n).ph = s.ph := rfl
@[simp] theorem State.own_bitcnt : (s.own n).bitcnt = s.bitcnt := rfl
@[simp] theorem State.own_plscnt : (s.own n).plscnt = s.plscnt := rfl
@[simp] theorem State.own_op : (s.own n).op = n := rfl
@[simp] theorem State.own_pollcnt : (s.own n).pollcnt = s.pollcnt := rfl
@[simp] theorem State.own_dlycnt : (s.own n).dlycnt = s.dlycnt := rfl
@[simp] theorem State.own_rspValid : (s.own n).rspValid = s.rspValid := rfl
@[simp] theorem State.own_rspSt : (s.own n).rspSt = s.rspSt := rfl
@[simp] theorem State.own_params : (s.own n).params = s.params := rfl
@[simp] theorem State.own_now : (s.own n).now = s.now := rfl
@[simp] theorem State.own_host : (s.own n).host = s.host := rfl
@[simp] theorem State.own_din : (s.own n).din = s.din := rfl
@[simp] theorem State.own_hostAt (k : Nat) : (s.own n).hostAt k = s.hostAt k := rfl
@[simp] theorem State.own_dinAt (k : Nat) : (s.own n).dinAt k = s.dinAt k := rfl
end

section
@[simp] theorem State.beginWait_sck : (s.beginWait).sck = s.sck := rfl
@[simp] theorem State.beginWait_shr : (s.beginWait).shr = s.shr := rfl
@[simp] theorem State.beginWait_rspData : (s.beginWait).rspData = s.rspData := rfl
@[simp] theorem State.beginWait_sel : (s.beginWait).sel = s.sel := rfl
@[simp] theorem State.beginWait_ph : (s.beginWait).ph = .wait := rfl
@[simp] theorem State.beginWait_bitcnt : (s.beginWait).bitcnt = s.bitcnt := rfl
@[simp] theorem State.beginWait_plscnt : (s.beginWait).plscnt = s.plscnt := rfl
@[simp] theorem State.beginWait_op : (s.beginWait).op = s.op := rfl
@[simp] theorem State.beginWait_pollcnt : (s.beginWait).pollcnt = 0 := rfl
@[simp] theorem State.beginWait_dlycnt : (s.beginWait).dlycnt = s.dlycnt := rfl
@[simp] theorem State.beginWait_rspValid : (s.beginWait).rspValid = s.rspValid := rfl
@[simp] theorem State.beginWait_rspSt : (s.beginWait).rspSt = s.rspSt := rfl
@[simp] theorem State.beginWait_params : (s.beginWait).params = s.params := rfl
@[simp] theorem State.beginWait_now : (s.beginWait).now = s.now := rfl
@[simp] theorem State.beginWait_host : (s.beginWait).host = s.host := rfl
@[simp] theorem State.beginWait_din : (s.beginWait).din = s.din := rfl
@[simp] theorem State.beginWait_hostAt (k : Nat) : (s.beginWait).hostAt k = s.hostAt k := rfl
@[simp] theorem State.beginWait_dinAt (k : Nat) : (s.beginWait).dinAt k = s.dinAt k := rfl
end

section
@[simp] theorem State.beginSettle_sck : (s.beginSettle).sck = s.sck := rfl
@[simp] theorem State.beginSettle_shr : (s.beginSettle).shr = s.shr := rfl
@[simp] theorem State.beginSettle_rspData : (s.beginSettle).rspData = s.rspData := rfl
@[simp] theorem State.beginSettle_sel : (s.beginSettle).sel = s.sel := rfl
@[simp] theorem State.beginSettle_ph : (s.beginSettle).ph = .settle := rfl
@[simp] theorem State.beginSettle_bitcnt : (s.beginSettle).bitcnt = s.bitcnt := rfl
@[simp] theorem State.beginSettle_plscnt : (s.beginSettle).plscnt = s.plscnt := rfl
@[simp] theorem State.beginSettle_op : (s.beginSettle).op = s.op := rfl
@[simp] theorem State.beginSettle_pollcnt : (s.beginSettle).pollcnt = s.pollcnt := rfl
@[simp] theorem State.beginSettle_dlycnt : (s.beginSettle).dlycnt = s.params.nSettle := rfl
@[simp] theorem State.beginSettle_rspValid : (s.beginSettle).rspValid = s.rspValid := rfl
@[simp] theorem State.beginSettle_rspSt : (s.beginSettle).rspSt = s.rspSt := rfl
@[simp] theorem State.beginSettle_params : (s.beginSettle).params = s.params := rfl
@[simp] theorem State.beginSettle_now : (s.beginSettle).now = s.now := rfl
@[simp] theorem State.beginSettle_host : (s.beginSettle).host = s.host := rfl
@[simp] theorem State.beginSettle_din : (s.beginSettle).din = s.din := rfl
@[simp] theorem State.beginSettle_hostAt (k : Nat) : (s.beginSettle).hostAt k = s.hostAt k := rfl
@[simp] theorem State.beginSettle_dinAt (k : Nat) : (s.beginSettle).dinAt k = s.dinAt k := rfl
end

section
@[simp] theorem State.beginHold_sck : (s.beginHold).sck = s.sck := rfl
@[simp] theorem State.beginHold_shr : (s.beginHold).shr = s.shr := rfl
@[simp] theorem State.beginHold_rspData : (s.beginHold).rspData = s.rspData := rfl
@[simp] theorem State.beginHold_sel : (s.beginHold).sel = s.sel := rfl
@[simp] theorem State.beginHold_ph : (s.beginHold).ph = .pdHold := rfl
@[simp] theorem State.beginHold_bitcnt : (s.beginHold).bitcnt = s.bitcnt := rfl
@[simp] theorem State.beginHold_plscnt : (s.beginHold).plscnt = s.plscnt := rfl
@[simp] theorem State.beginHold_op : (s.beginHold).op = s.op := rfl
@[simp] theorem State.beginHold_pollcnt : (s.beginHold).pollcnt = s.pollcnt := rfl
@[simp] theorem State.beginHold_dlycnt : (s.beginHold).dlycnt = s.params.nPdhold := rfl
@[simp] theorem State.beginHold_rspValid : (s.beginHold).rspValid = s.rspValid := rfl
@[simp] theorem State.beginHold_rspSt : (s.beginHold).rspSt = s.rspSt := rfl
@[simp] theorem State.beginHold_params : (s.beginHold).params = s.params := rfl
@[simp] theorem State.beginHold_now : (s.beginHold).now = s.now := rfl
@[simp] theorem State.beginHold_host : (s.beginHold).host = s.host := rfl
@[simp] theorem State.beginHold_din : (s.beginHold).din = s.din := rfl
@[simp] theorem State.beginHold_hostAt (k : Nat) : (s.beginHold).hostAt k = s.hostAt k := rfl
@[simp] theorem State.beginHold_dinAt (k : Nat) : (s.beginHold).dinAt k = s.dinAt k := rfl
end

section
@[simp] theorem State.countDelay_sck : (s.countDelay).sck = s.sck := rfl
@[simp] theorem State.countDelay_shr : (s.countDelay).shr = s.shr := rfl
@[simp] theorem State.countDelay_rspData : (s.countDelay).rspData = s.rspData := rfl
@[simp] theorem State.countDelay_sel : (s.countDelay).sel = s.sel := rfl
@[simp] theorem State.countDelay_ph : (s.countDelay).ph = s.ph := rfl
@[simp] theorem State.countDelay_bitcnt : (s.countDelay).bitcnt = s.bitcnt := rfl
@[simp] theorem State.countDelay_plscnt : (s.countDelay).plscnt = s.plscnt := rfl
@[simp] theorem State.countDelay_op : (s.countDelay).op = s.op := rfl
@[simp] theorem State.countDelay_pollcnt : (s.countDelay).pollcnt = s.pollcnt := rfl
@[simp] theorem State.countDelay_dlycnt : (s.countDelay).dlycnt = s.dlycnt - 1 := rfl
@[simp] theorem State.countDelay_rspValid : (s.countDelay).rspValid = s.rspValid := rfl
@[simp] theorem State.countDelay_rspSt : (s.countDelay).rspSt = s.rspSt := rfl
@[simp] theorem State.countDelay_params : (s.countDelay).params = s.params := rfl
@[simp] theorem State.countDelay_now : (s.countDelay).now = s.now := rfl
@[simp] theorem State.countDelay_host : (s.countDelay).host = s.host := rfl
@[simp] theorem State.countDelay_din : (s.countDelay).din = s.din := rfl
@[simp] theorem State.countDelay_hostAt (k : Nat) : (s.countDelay).hostAt k = s.hostAt k := rfl
@[simp] theorem State.countDelay_dinAt (k : Nat) : (s.countDelay).dinAt k = s.dinAt k := rfl
end

section
@[simp] theorem State.hardReset_sck : (s.hardReset).sck = 0 := rfl
@[simp] theorem State.hardReset_shr : (s.hardReset).shr = Config.freeShr s.now := rfl
@[simp] theorem State.hardReset_rspData : (s.hardReset).rspData = 0 := rfl
@[simp] theorem State.hardReset_sel : (s.hardReset).sel = 0b01 := rfl
@[simp] theorem State.hardReset_ph : (s.hardReset).ph = .idle := rfl
@[simp] theorem State.hardReset_bitcnt : (s.hardReset).bitcnt = 0 := rfl
@[simp] theorem State.hardReset_plscnt : (s.hardReset).plscnt = 0 := rfl
@[simp] theorem State.hardReset_op : (s.hardReset).op = 0 := rfl
@[simp] theorem State.hardReset_pollcnt : (s.hardReset).pollcnt = 0 := rfl
@[simp] theorem State.hardReset_dlycnt : (s.hardReset).dlycnt = 0 := rfl
@[simp] theorem State.hardReset_rspValid : (s.hardReset).rspValid = 0 := rfl
@[simp] theorem State.hardReset_rspSt : (s.hardReset).rspSt = 0 := rfl
@[simp] theorem State.hardReset_params : (s.hardReset).params = s.params := rfl
@[simp] theorem State.hardReset_now : (s.hardReset).now = s.now := rfl
@[simp] theorem State.hardReset_host : (s.hardReset).host = s.host := rfl
@[simp] theorem State.hardReset_din : (s.hardReset).din = s.din := rfl
@[simp] theorem State.hardReset_hostAt (k : Nat) : (s.hardReset).hostAt k = s.hostAt k := rfl
@[simp] theorem State.hardReset_dinAt (k : Nat) : (s.hardReset).dinAt k = s.dinAt k := rfl
end

section
variable (w : Word)
@[simp] theorem State.presentWord_sck : (s.presentWord w).sck = s.sck := rfl
@[simp] theorem State.presentWord_shr : (s.presentWord w).shr = s.shr := rfl
@[simp] theorem State.presentWord_rspData : (s.presentWord w).rspData = s.rspData := rfl
@[simp] theorem State.presentWord_sel : (s.presentWord w).sel = s.sel := rfl
@[simp] theorem State.presentWord_ph : (s.presentWord w).ph = .idle := rfl
@[simp] theorem State.presentWord_bitcnt : (s.presentWord w).bitcnt = s.bitcnt := rfl
@[simp] theorem State.presentWord_plscnt : (s.presentWord w).plscnt = s.plscnt := rfl
@[simp] theorem State.presentWord_op : (s.presentWord w).op = s.op := rfl
@[simp] theorem State.presentWord_pollcnt : (s.presentWord w).pollcnt = s.pollcnt := rfl
@[simp] theorem State.presentWord_dlycnt : (s.presentWord w).dlycnt = s.dlycnt := rfl
@[simp] theorem State.presentWord_rspValid : (s.presentWord w).rspValid = s.rspValid := rfl
@[simp] theorem State.presentWord_rspSt : (s.presentWord w).rspSt = s.rspSt := rfl
@[simp] theorem State.presentWord_params : (s.presentWord w).params = s.params := rfl
@[simp] theorem State.presentWord_now : (s.presentWord w).now = s.now := rfl
@[simp] theorem State.presentWord_host : (s.presentWord w).host = { rst := 0, cmdValid := 1, cmd := w } :: s.host.tail := rfl
@[simp] theorem State.presentWord_din : (s.presentWord w).din = s.din := rfl
end

/-- Once this tick's inputs are past, the inputs `k` ticks away are those that were `k + 1` away. -/
@[simp] theorem State.advance_hostAt (k : Nat) : s.advance.hostAt k = s.hostAt (k + 1) := by
  simp only [State.hostAt, State.advance_host, State.advance_now, List.getD_eq_getElem?_getD, List.getElem?_tail]
  rw [show s.now + 1 + k = s.now + (k + 1) by omega]

/-- Once this tick's sample is past, the DIN level `k` ticks away is the one that was `k + 1` away. -/
@[simp] theorem State.advance_dinAt (k : Nat) : s.advance.dinAt k = s.dinAt (k + 1) := by
  simp only [State.dinAt, State.advance_din, State.advance_now, List.getD_eq_getElem?_getD, List.getElem?_tail]
  rw [show s.now + 1 + k = s.now + (k + 1) by omega]

/-- A presented word is what the host drives in this tick. -/
@[simp] theorem State.presentWord_hostAt_zero (w : Word) :
    (s.presentWord w).hostAt 0 = { rst := 0, cmdValid := 1, cmd := w } := rfl

/-- Presenting a word leaves the DIN answers as they are. -/
@[simp] theorem State.presentWord_dinAt (w : Word) (k : Nat) : (s.presentWord w).dinAt k = s.dinAt k := rfl

end Sys2Proof.Machine
end

