-- ==== Sys2Proof/Laws/Tick.lean ====
section
/-! SUPPORT. What each accept tick and each phase can do, said once; and a step unfolded for the phase it is in. -/

namespace Sys2Proof.Machine

variable {s t : State}

/-- A step with `rst` low is the tick of its phase. -/
theorem step_eq (h : (s.hostAt 0).rst = 0) :
    step s = tick s.advance 0 (s.hostAt 0).cmdValid (s.hostAt 0).cmd s.pinReadDin := by
  rw [step, h]

/-- A one-bit level that is not 1 is 0. -/
theorem bit_eq_zero {b : Bit} (h : b ≠ 1) : b = 0 := by
  revert b; decide

/-- A one-bit level that is not 0 is 1. -/
theorem bit_eq_one {b : Bit} (h : b ≠ 0) : b = 1 := by
  revert b; decide

theorem step_rst (h : (s.hostAt 0).rst = 1) : step s = .next s.advance.hardReset := by
  rw [step, h]; rfl

theorem step_idle (p : s.ph = .idle) (h : (s.hostAt 0).rst = 0) :
    step s = tickIdle s.advance (s.hostAt 0).cmdValid (s.hostAt 0).cmd := by
  simp [step_eq h, tick, p]

theorem step_wait (p : s.ph = .wait) (h : (s.hostAt 0).rst = 0) : step s = tickWait s.advance s.pinReadDin := by
  simp [step_eq h, tick, p]

theorem step_bitH (p : s.ph = .bitH) (h : (s.hostAt 0).rst = 0) : step s = tickBitH s.advance := by
  simp [step_eq h, tick, p]

theorem step_bitL (p : s.ph = .bitL) (h : (s.hostAt 0).rst = 0) : step s = tickBitL s.advance s.pinReadDin := by
  simp [step_eq h, tick, p]

theorem step_plsH (p : s.ph = .plsH) (h : (s.hostAt 0).rst = 0) : step s = tickPlsH s.advance := by
  simp [step_eq h, tick, p]

theorem step_plsL (p : s.ph = .plsL) (h : (s.hostAt 0).rst = 0) : step s = tickPlsL s.advance := by
  simp [step_eq h, tick, p]

theorem step_dec (p : s.ph = .dec) (h : (s.hostAt 0).rst = 0) : step s = tickDec s.advance := by
  simp [step_eq h, tick, p]

theorem step_settle (p : s.ph = .settle) (h : (s.hostAt 0).rst = 0) : step s = tickSettle s.advance := by
  simp [step_eq h, tick, p]

theorem step_pdRise (p : s.ph = .pdRise) (h : (s.hostAt 0).rst = 0) : step s = tickPdRise s.advance := by
  simp [step_eq h, tick, p]

theorem step_pdHold (p : s.ph = .pdHold) (h : (s.hostAt 0).rst = 0) : step s = tickPdHold s.advance := by
  simp [step_eq h, tick, p]

/-- Everything an accept tick of SETGAIN can do. -/
theorem execSetgain_cases {g : Nat} (h : execSetgain g s = .next t) :
    (∃ x, selOf g = some x ∧ t = (({ s.dropResponse with sel := x }.pinWriteSck 0).own opSetgain).beginWait) ∨
    (selOf g = none ∧ t = s.dropResponse.raise .invalidGain) := by
  unfold execSetgain at h
  split at h
  · rename_i x hx; exact .inl ⟨x, hx, by simpa using h.symm⟩
  · rename_i hx; exact .inr ⟨hx, by simpa using h.symm⟩

/-- Everything an accept tick of GETGAIN can do. -/
theorem execGetgain_cases (h : execGetgain s = .next t) :
    ∃ g, gainOf s.sel = some g ∧ t = s.dropResponse.respond .ok (zext32 g) := by
  unfold execGetgain at h
  split at h
  · rename_i g hg; exact ⟨g, hg, by simpa using h.symm⟩
  · simp at h

/-- Everything a WAIT tick can do. -/
theorem tickWait_cases {d : Bit} (h : tickWait s d = .next t) :
    (d = 0 ∧ t = { s with bitcnt := 24, ph := .bitH }) ∨
    (d = 1 ∧ s.pollLimitReached = true ∧ t = s.raise .timeout) ∨
    (d = 1 ∧ s.pollLimitReached = false ∧ t = { s with pollcnt := s.pollcnt + 1 }) := by
  unfold tickWait at h
  split at h
  · rename_i hd; exact .inl ⟨hd, by simpa using h.symm⟩
  · rename_i hd
    split at h
    · rename_i hp; exact .inr (.inl ⟨bit_eq_one hd, hp, by simpa using h.symm⟩)
    · rename_i hp; exact .inr (.inr ⟨bit_eq_one hd, by simpa using hp, by simpa using h.symm⟩)

/-- The limit is reached exactly if there is one and this sample is its last. -/
theorem pollLimitReached_iff :
    s.pollLimitReached = true ↔ ∃ n, s.params.pollLimit = some n ∧ n ≤ s.pollcnt + 1 := by
  unfold State.pollLimitReached
  split <;> simp_all

/-- Everything a BIT_L tick can do. -/
theorem tickBitL_cases {d : Bit} (h : tickBitL s d = .next t) :
    (s.bitcnt = 1 ∧
      t = { s with sck := 0, shr := shiftIn s.shr d, bitcnt := s.bitcnt - 1, plscnt := s.sel, ph := .plsH }) ∨
    (s.bitcnt ≠ 1 ∧ t = { s with sck := 0, shr := shiftIn s.shr d, bitcnt := s.bitcnt - 1, ph := .bitH }) := by
  unfold tickBitL at h
  simp only at h
  split at h
  · rename_i hb; exact .inl ⟨hb, by simpa [State.pinWriteSck] using h.symm⟩
  · rename_i hb; exact .inr ⟨hb, by simpa [State.pinWriteSck, State.goTo] using h.symm⟩

/-- Everything a DEC tick can do. -/
theorem tickDec_cases (h : tickDec s = .next t) :
    (s.op = opRead ∧ t = s.finish (sext32 s.shr)) ∨ (s.op = opSetgain ∧ t = s.beginSettle) := by
  unfold tickDec at h
  split at h
  · rename_i ho; exact .inl ⟨ho, by simpa using h.symm⟩
  · split at h
    · rename_i ho; exact .inr ⟨ho, by simpa using h.symm⟩
    · simp at h

/-- Everything a SETTLE tick can do. -/
theorem tickSettle_cases (h : tickSettle s = .next t) :
    (s.dlycnt ≤ 1 ∧ t = s.finish 0) ∨ (1 < s.dlycnt ∧ t = s.countDelay) := by
  unfold tickSettle at h
  split at h
  · rename_i hd; exact .inl ⟨hd, by simpa using h.symm⟩
  · rename_i hd; exact .inr ⟨by omega, by simpa using h.symm⟩

/-- Everything a PD_HOLD tick can do. -/
theorem tickPdHold_cases (h : tickPdHold s = .next t) :
    (s.dlycnt ≤ 1 ∧ s.op = opPwrdn ∧ t = s.finish 0) ∨
    (s.dlycnt ≤ 1 ∧ s.op = opReset ∧ t = (s.pinWriteSck 0).beginSettle) ∨
    (1 < s.dlycnt ∧ t = s.countDelay) := by
  unfold tickPdHold at h
  split at h
  · rename_i hd
    split at h
    · rename_i ho; exact .inl ⟨hd, ho, by simpa using h.symm⟩
    · split at h
      · rename_i ho; exact .inr (.inl ⟨hd, ho, by simpa using h.symm⟩)
      · simp at h
  · rename_i hd; exact .inr (.inr ⟨by omega, by simpa using h.symm⟩)

/-- Everything an IDLE tick can do. -/
theorem tickIdle_cases {v : Bit} {w : Word} (h : tickIdle s v w = .next t) :
    (v = 0 ∧ t = s) ∨ (v = 1 ∧ ∃ i, decode w = .ok i ∧ exec i s = .next t) ∨
    (v = 1 ∧ (∃ e, decode w = .error e) ∧ t = s.dropResponse.raise .illegalCommand) := by
  unfold tickIdle at h
  split at h
  · rename_i hv
    split at h
    · rename_i i hi; exact .inr (.inl ⟨hv, i, hi, h⟩)
    · rename_i e he; exact .inr (.inr ⟨hv, ⟨e, he⟩, by simpa using h.symm⟩)
  · rename_i hv; exact .inl ⟨bit_eq_zero hv, by simpa using h.symm⟩

/-- Everything a step can do: a hardware reset, or the tick of its phase. -/
theorem step_cases (h : step s = .next t) :
    ((s.hostAt 0).rst = 1 ∧ t = s.advance.hardReset) ∨
    ((s.hostAt 0).rst = 0 ∧
      tick s.advance 0 (s.hostAt 0).cmdValid (s.hostAt 0).cmd s.pinReadDin = .next t) := by
  by_cases hr : (s.hostAt 0).rst = 1
  · exact .inl ⟨hr, by rw [step_rst hr] at h; simpa using h.symm⟩
  · have hz := bit_eq_zero hr
    exact .inr ⟨hz, by rw [← step_eq hz]; exact h⟩

/-- Everything a step with `rst` low can do, by phase. -/
theorem step_cases_of_noRst (h : step s = .next t) (hr : (s.hostAt 0).rst = 0) :
    (s.ph = .idle ∧ tickIdle s.advance (s.hostAt 0).cmdValid (s.hostAt 0).cmd = .next t) ∨
    (s.ph = .wait ∧ tickWait s.advance s.pinReadDin = .next t) ∨
    (s.ph = .bitH ∧ tickBitH s.advance = .next t) ∨
    (s.ph = .bitL ∧ tickBitL s.advance s.pinReadDin = .next t) ∨
    (s.ph = .plsH ∧ tickPlsH s.advance = .next t) ∨
    (s.ph = .plsL ∧ tickPlsL s.advance = .next t) ∨
    (s.ph = .dec ∧ tickDec s.advance = .next t) ∨
    (s.ph = .settle ∧ tickSettle s.advance = .next t) ∨
    (s.ph = .pdRise ∧ tickPdRise s.advance = .next t) ∨
    (s.ph = .pdHold ∧ tickPdHold s.advance = .next t) := by
  rw [step_eq hr] at h
  cases p : s.ph <;> simp [tick, p] at h <;> simp [h]

/-- Everything an accept tick can do, by command. -/
theorem exec_cases {i : Instr} (h : exec i s = .next t) :
    (i = .read ∧ t = (s.dropResponse.own opRead).beginWait) ∨
    (∃ g x, i = .setgain g ∧ selOf g = some x ∧
      t = (({ s.dropResponse with sel := x }.pinWriteSck 0).own opSetgain).beginWait) ∨
    (∃ g, i = .setgain g ∧ selOf g = none ∧ t = s.dropResponse.raise .invalidGain) ∨
    (i = .getgain ∧ ∃ g, gainOf s.sel = some g ∧ t = s.dropResponse.respond .ok (zext32 g)) ∨
    (i = .pwrdn ∧ t = ((s.dropResponse.own opPwrdn).pinWriteSck 0).goTo .pdRise) ∨
    (i = .pwrup ∧ t = ((s.dropResponse.own opPwrup).pinWriteSck 0).beginSettle) ∨
    (i = .reset ∧ t = ((s.dropResponse.own opReset).pinWriteSck 0).goTo .pdRise) := by
  cases i with
  | setgain g => rcases execSetgain_cases h with ⟨x, hx, rfl⟩ | ⟨hx, rfl⟩ <;> simp [hx]
  | getgain => obtain ⟨g, hg, rfl⟩ := execGetgain_cases h; simp [hg]
  | read => obtain rfl := Host.Outcome.next.inj h; simp
  | pwrdn => obtain rfl := Host.Outcome.next.inj h; simp
  | pwrup => obtain rfl := Host.Outcome.next.inj h; simp
  | reset => obtain rfl := Host.Outcome.next.inj h; simp

end Sys2Proof.Machine
end

