-- ==== Sys2Proof/Laws/Run.lean ====
section
/-! SUPPORT. Running for a number of ticks: one step peeled off, two runs joined, and the same for the traces. -/

namespace Sys2Proof.Machine

variable {s t u : State}

@[simp] theorem ticks_zero : ticks 0 s = .next s := rfl

/-- A run whose first step answers `t` goes on from `t`. -/
theorem ticks_succ {n : Nat} (h : step s = .next t) : ticks (n + 1) s = ticks n t := by
  simp [ticks, h]

/-- A run of `m + n` ticks is one of `m` and then one of `n`. -/
theorem ticks_add {m n : Nat} (h : ticks m s = .next t) : ticks (m + n) s = ticks n t := by
  induction m generalizing s with
  | zero => simp at h; subst h; simp
  | succ m ih =>
    rw [Nat.succ_add]
    rw [ticks] at h
    split at h
    · rename_i x hx; rw [ticks_succ hx]; exact ih h
    · simp at h
    · simp at h

/-- The clock trace of a run whose first step answers `t`. -/
theorem sckTrace_succ {n : Nat} (h : step s = .next t) : sckTrace (n + 1) s = t.sck :: sckTrace n t := by
  simp [sckTrace, h]

/-- The clock trace of a run of `m + n` ticks is that of its two parts. -/
theorem sckTrace_add {m n : Nat} (h : ticks m s = .next t) : sckTrace (m + n) s = sckTrace m s ++ sckTrace n t := by
  induction m generalizing s with
  | zero => simp at h; subst h; simp [sckTrace]
  | succ m ih =>
    rw [Nat.succ_add]
    rw [ticks] at h
    split at h
    · rename_i x hx; simp [sckTrace, hx, ih h]
    · simp at h
    · simp at h

/-- Observing a run whose first step answers `t`. -/
theorem observeTicks_succ {n : Nat} {v : DeviceView} (h : step s = .next t) :
    observeTicks (n + 1) s v = observeTicks n t (v.observe s t) := by
  simp [observeTicks, h]

/-- Observing a run of `m + n` ticks is observing its two parts. -/
theorem observeTicks_add {m n : Nat} {v : DeviceView} (h : ticks m s = .next t) :
    observeTicks (m + n) s v = observeTicks n t (observeTicks m s v) := by
  induction m generalizing s v with
  | zero => simp at h; subst h; simp [observeTicks]
  | succ m ih =>
    rw [Nat.succ_add]
    rw [ticks] at h
    split at h
    · rename_i x hx; simp [observeTicks, hx, ih h]
    · simp at h
    · simp at h

end Sys2Proof.Machine
end

