-- ==== Sys2Proof/Tests/Slice0.lean ====
section
/-! SUPPORT. The model's own tests, expected results taken from spec/95_test_vectors.md and the rules, and for each statement
with hypotheses a witness that meets them together. Each test is one step or one accept tick. -/

namespace Sys2Proof.Tests

open Sys2Proof Sys2Proof.Machine

/-! ### Well-formedness: the one check refuses an operand of 13 bits -/

theorem test_wellFormed_refuses_operand_4096 : (Instr.setgain 4096).wellFormed = false := by decide
theorem test_wellFormed_accepts_operand_4095 : (Instr.setgain 4095).wellFormed = true := by decide

/-! ### Decoding, from words written out bit by bit (30_encoding.md R50, R52, R53; 95_test_vectors.md section 2.5) -/

theorem test_decode_read : decode 0b0001000000000000 = .ok .read := by decide
theorem test_decode_setgain_128 : decode 0b0010000010000000 = .ok (.setgain 128) := by decide
theorem test_decode_setgain_64 : decode 0b0010000001000000 = .ok (.setgain 64) := by decide
theorem test_decode_setgain_999 : decode 0b0010001111100111 = .ok (.setgain 999) := by decide
theorem test_decode_setgain_4095 : decode 0b0010111111111111 = .ok (.setgain 4095) := by decide
theorem test_decode_getgain : decode 0b0011000000000000 = .ok .getgain := by decide
theorem test_decode_pwrdn : decode 0b0100000000000000 = .ok .pwrdn := by decide
theorem test_decode_pwrup : decode 0b0101000000000000 = .ok .pwrup := by decide
theorem test_decode_reset : decode 0b0110000000000000 = .ok .reset := by decide
theorem test_decode_reserved_15 : decode 0xFFFF = .error (.reservedOpcode 15) := by decide
theorem test_decode_pwrup_with_operand : decode 0x5FFF = .error (.nonzeroOperand 5 4095) := by decide
theorem test_encode_setgain_999 : encode (.setgain 999) = 0x23E7 := by decide
theorem test_decodeTableWord_pwrup : decodeTableWord 16 0x5000 = some .pwrup := by decide

/-- No word is of two rows of the opcode table: any two rows differ in a bit that both fix. -/
theorem test_opcode_rows_disjoint :
    opcodeTable.Pairwise (fun a b => a.pattern &&& b.mask ≠ b.pattern &&& a.mask) := by decide

/-! ### The decode (95_test_vectors.md V-D4, V-D9, V-D10) -/

theorem test_decode24_smallest : decode24 0x800000 = -8388608 := by decide
theorem test_decode24_V_D9 : decode24 0xEDCBAA = -1193046 := by decide
theorem test_sext32_V_D10 : sext32 0xABCDEF = 0xFFABCDEF := by decide

/-! ### One tick each, on a small state -/

/-- A quiet host input. -/
def quiet : HostInput := { rst := 0, cmdValid := 0, cmd := 0 }

/-- The reset state with the parameters of the test vectors: `N_PDHOLD` = 2, `N_SETTLE` = 3 (95_test_vectors.md). -/
def base : State :=
  { State.reset with params := { pollLimit := none, nPdhold := 2, nSettle := 3, tickNum := 1, tickDen := 1 } }

/-- `base` with a command word presented. -/
def given (w : Word) : State := base.presentWord w

/-- Does the step answer a state with this property? -/
def stepGives (s : State) (f : State → Bool) : Bool :=
  match step s with
  | .next t => f t
  | .fault _ => false
  | .refused _ => false

/-- V-RD1, tick 0: READ begins its wait and writes no pin. -/
theorem test_read_accepted :
    stepGives (given 0x1000) (fun t => t.ph == .wait && t.op == 1 && t.sck == 0 && t.rspValid == 0) = true := by decide

/-- V-Z1: READ accepted with SCK high leaves it high. -/
theorem test_read_leaves_clock_high :
    stepGives { given 0x1000 with sck := 1 } (fun t => t.sck == 1 && t.ph == .wait) = true := by decide

/-- V-G1: SETGAIN 64 arms 0b11 and lowers the clock at once. -/
theorem test_setgain_64_accepted :
    stepGives { given 0x2040 with sck := 1 } (fun t => t.sel == 0b11 && t.sck == 0 && t.op == 2 && t.ph == .wait) = true := by
  decide

/-- V-G4: SETGAIN 999 answers InvalidGain; SEL and SCK as before. -/
theorem test_setgain_999_rejected :
    stepGives { given 0x23E7 with sel := 0b11, sck := 1 }
      (fun t => t.rspValid == 1 && t.rspSt == 2 && t.rspData == 0 && t.sel == 0b11 && t.sck == 1 && t.ph == .idle) = true := by
  decide

/-- V-G8, V-G9: GETGAIN answers 128 after reset and 32 with 0b10 armed. -/
theorem test_getgain_reset :
    stepGives (given 0x3000) (fun t => t.rspValid == 1 && t.rspSt == 0 && t.rspData == 0x80 && t.ph == .idle) = true := by
  decide
theorem test_getgain_b32 :
    stepGives { given 0x3000 with sel := 0b10 } (fun t => t.rspData == 0x20 && t.sel == 0b10) = true := by decide

/-- V-P4: a second PWRDN lowers the clock for its accept tick. -/
theorem test_pwrdn_accepted :
    stepGives { given 0x4000 with sck := 1 } (fun t => t.sck == 0 && t.op == 4 && t.ph == .pdRise) = true := by decide

/-- V-P2: PWRUP loads the settle delay. -/
theorem test_pwrup_accepted :
    stepGives { given 0x5000 with sck := 1 } (fun t => t.sck == 0 && t.dlycnt == 3 && t.ph == .settle) = true := by decide

/-- V-P3: RESET keeps SEL. -/
theorem test_reset_accepted :
    stepGives { given 0x6000 with sel := 0b11 } (fun t => t.sel == 0b11 && t.op == 6 && t.ph == .pdRise) = true := by decide

/-- V-E6: PWRDN with a nonzero operand answers IllegalCommand and does not touch SCK. -/
theorem test_illegal_word :
    stepGives { given 0x4800 with sck := 1 }
      (fun t => t.rspValid == 1 && t.rspSt == 5 && t.rspData == 0 && t.sck == 1 && t.ph == .idle) = true := by decide

/-- V-H3: `rst` and a command in the same tick: the command is not accepted. -/
theorem test_rst_overrides_command :
    stepGives { given 0x1000 with host := [{ rst := 1, cmdValid := 1, cmd := 0x1000 }], sel := 0b11 }
      (fun t => t.ph == .idle && t.sel == 0b01 && t.rspValid == 0) = true := by decide

/-- V-H1, tick 1: a command presented in PD_RISE is ignored. -/
theorem test_busy_ignores_command :
    stepGives { given 0x3000 with ph := .pdRise, op := 4 } (fun t => t.ph == .pdHold && t.sck == 1 && t.rspValid == 0) = true := by
  decide

/-- V-RD4, tick 5: the first data bit enters SHR at bit 0. -/
theorem test_bitL_shifts :
    stepGives { base with ph := .bitL, op := 1, bitcnt := 24, sck := 1, shr := 0xABCDEF, host := [quiet], din := [1] }
      (fun t => t.shr == 0x579BDF && t.sck == 0 && t.bitcnt == 23 && t.ph == .bitH) = true := by decide

/-- V-RD4, tick 51: the 24th bit loads PLSCNT from SEL. -/
theorem test_bitL_last :
    stepGives { base with ph := .bitL, op := 1, bitcnt := 1, sel := 3, sck := 1, shr := 0xC00000, host := [quiet], din := [1] }
      (fun t => t.shr == 0x800001 && t.plscnt == 3 && t.bitcnt == 0 && t.ph == .plsH) = true := by decide

/-- V-RD4, tick 58: DEC delivers the sample sign-extended. -/
theorem test_dec_delivers :
    stepGives { base with ph := .dec, op := 1, shr := 0x800001, host := [quiet] }
      (fun t => t.rspValid == 1 && t.rspSt == 0 && t.rspData == 0xFF800001 && t.ph == .idle) = true := by decide

/-- Three of four samples were high; the fourth is `d`. -/
def lastSample (d : Bit) : State :=
  { base with ph := .wait, op := 1, pollcnt := 3, params := { base.params with pollLimit := some 4 }, host := [quiet], din := [d] }

/-- V-RD5, V-RD6: at the fourth of four samples a high one times out and a low one succeeds. -/
theorem test_wait_times_out :
    stepGives (lastSample 1) (fun t => t.rspValid == 1 && t.rspSt == 1 && t.pollcnt == 3 && t.ph == .idle) = true := by decide
theorem test_wait_ready_first :
    stepGives (lastSample 0) (fun t => t.rspValid == 0 && t.bitcnt == 24 && t.ph == .bitH) = true := by decide

/-- V-P3, tick 3: RESET's last hold tick lowers the clock and settles. -/
theorem test_hold_ends_for_reset :
    stepGives { base with ph := .pdHold, op := 6, sck := 1, dlycnt := 1, host := [quiet] }
      (fun t => t.sck == 0 && t.dlycnt == 3 && t.ph == .settle && t.rspValid == 0) = true := by decide

/-- V-P1, tick 3: PWRDN's last hold tick responds with the clock high. -/
theorem test_hold_ends_for_pwrdn :
    stepGives { base with ph := .pdHold, op := 4, sck := 1, dlycnt := 1, host := [quiet] }
      (fun t => t.sck == 1 && t.rspValid == 1 && t.rspSt == 0 && t.ph == .idle) = true := by decide

/-- 30_encoding.md R61: lower case is no mnemonic; an operand is read in hexadecimal after `0x`. -/
theorem test_assemble_lower_case : assembleLine "read" = none := by decide
theorem test_assemble_hex : assembleLine "SETGAIN 0x20" = some 0x2020 := by decide

/-! ### Witnesses: each statement's hypotheses are met together by a concrete state -/

/-- The parameters with a bound of two samples. -/
def bounded : Params := { base.params with pollLimit := some 2 }

/-- `n` quiet host ticks. -/
def quietFor (n : Nat) : List HostInput := List.replicate n quiet

/-- A long quiet plan keeps `rst` low. -/
theorem noRst_quiet (s : State) (n : Nat) (h : s.host = quietFor n) : s.NoRst n := by
  intro j hj
  simp [State.hostAt, h, quietFor, List.getD_eq_getElem?_getD, hj, quiet]

/-- The same with a command presented in the first tick. -/
theorem noRst_present (s : State) (n : Nat) (w : Word) (h : s.host = { rst := 0, cmdValid := 1, cmd := w } :: quietFor n) :
    s.NoRst (n + 1) := by
  intro j hj
  cases j with
  | zero => simp [State.hostAt, h]
  | succ j => simp [State.hostAt, h, quietFor, List.getD_eq_getElem?_getD, show j < n by omega, quiet]

theorem witness_DecodeUndoesEncode : (Instr.setgain 4095).WellFormed := by decide

theorem witness_ReservedWords_opcode_0 :
    (given 0x0000).ph = .idle ∧ (given 0x0000).hostAt 0 = { rst := 0, cmdValid := 1, cmd := 0x0000 } ∧
    (0x0000#16).extractLsb' 12 4 = 0 := by decide

theorem witness_ReservedWords_opcode_7 :
    (given 0x7000).ph = .idle ∧ (given 0x7000).hostAt 0 = { rst := 0, cmdValid := 1, cmd := 0x7000 } ∧
    7 ≤ ((0x7000#16).extractLsb' 12 4).toNat := by decide

theorem witness_ReservedWords_operand_1 :
    (given 0x1001).hostAt 0 = { rst := 0, cmdValid := 1, cmd := 0x1001 } ∧
    (0x1001#16).extractLsb' 12 4 ≠ 2 ∧ (0x1001#16).extractLsb' 0 12 ≠ 0 := by decide

theorem witness_ReservedWords_accepted :
    (given 0x6000).hostAt 0 = { rst := 0, cmdValid := 1, cmd := 0x6000 } ∧
    ¬ ((0x6000#16).extractLsb' 12 4 = 0 ∨ 7 ≤ ((0x6000#16).extractLsb' 12 4).toNat ∨
      ((0x6000#16).extractLsb' 12 4 ≠ 2 ∧ (0x6000#16).extractLsb' 0 12 ≠ 0)) := by decide

theorem witness_SelectionTables :
    (3 : Nat) ≠ 128 ∧ (3 : Nat) ≠ 32 ∧ (3 : Nat) ≠ 64 ∧ selOf 64 = some 0b11 ∧ gainOf 0b11 = some 64 ∧
    { base with sel := 0b00 }.sel = 0b00 := by decide

theorem witness_StepRunsTheDecodedCommand : (given 0x2040).ph = .idle ∧ (given 0x2040).Presents (.setgain 64) := by decide

theorem witness_PresentedTableWordIsRun : 0x3000 < 65536 ∧ decodeTableWord 16 0x3000 = some .getgain := by decide

theorem witness_HardwareReset : ({ base with host := [{ rst := 1, cmdValid := 1, cmd := 0x1000 }] }.hostAt 0).rst = 1 := by
  decide

theorem witness_BusyBlockIgnoresCommands : { base with ph := .settle }.ph ≠ .idle := by decide

theorem witness_DinIsReadInWaitAndBitLOnly : base.ph ≠ .wait ∧ base.ph ≠ .bitL := by decide

theorem witness_StepMovesInputsOn : ∃ t, step { base with host := [quiet] } = .next t := ⟨_, rfl⟩

/-- The accept tick's cases, each at a word that meets it; the last three are the boundaries of the reserved words. -/
theorem witness_AcceptTick_cases :
    (given 0x1000).ph = .idle ∧ ((given 0x1000).hostAt 0).rst = 0 ∧ ((given 0x1000).hostAt 0).cmdValid = 1 ∧
    (0x1000#16).extractLsb' 12 4 = 1 ∧ (0x1000#16).extractLsb' 0 12 = 0 ∧
    (0x2080#16).extractLsb' 12 4 = 2 ∧ (0x2080#16).extractLsb' 0 12 = 128 ∧
    (0x2020#16).extractLsb' 12 4 = 2 ∧ (0x2020#16).extractLsb' 0 12 = 32 ∧
    (0x2040#16).extractLsb' 12 4 = 2 ∧ (0x2040#16).extractLsb' 0 12 = 64 ∧
    (0x2FFF#16).extractLsb' 12 4 = 2 ∧ (0x2FFF#16).extractLsb' 0 12 ≠ 128 ∧ (0x2FFF#16).extractLsb' 0 12 ≠ 32 ∧
    (0x2FFF#16).extractLsb' 0 12 ≠ 64 ∧
    (0x3000#16).extractLsb' 12 4 = 3 ∧ (0x3000#16).extractLsb' 0 12 = 0 ∧
    (0x4000#16).extractLsb' 12 4 = 4 ∧ (0x4000#16).extractLsb' 0 12 = 0 ∧
    (0x5000#16).extractLsb' 12 4 = 5 ∧ (0x5000#16).extractLsb' 0 12 = 0 ∧
    (0x6000#16).extractLsb' 12 4 = 6 ∧ (0x6000#16).extractLsb' 0 12 = 0 ∧
    (0x0FFF#16).extractLsb' 12 4 = 0 ∧ 7 ≤ ((0x7000#16).extractLsb' 12 4).toNat ∧
    ((0x6FFF#16).extractLsb' 12 4 ≠ 2 ∧ (0x6FFF#16).extractLsb' 0 12 ≠ 0) := by decide

/-- The accept tick's case without a command. -/
theorem witness_AcceptTick_quiet :
    { base with host := [quiet] }.ph = .idle ∧ ({ base with host := [quiet] }.hostAt 0).rst = 0 ∧
    ({ base with host := [quiet] }.hostAt 0).cmdValid = 0 := by decide

theorem witness_ExecAcceptsEveryCommand : base.sel ≠ 0 := by decide

theorem witness_AcceptTickFrame :
    (∃ t, exec .read base = .next t ∧ t.rspValid = 0) ∧ (∃ t, exec .pwrup base = .next t) ∧
    ∃ t, exec (.setgain 999) base = .next t ∧ selOf 999 = none :=
  ⟨⟨_, rfl, rfl⟩, ⟨_, rfl⟩, ⟨_, rfl, rfl⟩⟩

theorem witness_UnsupportedGain : base.ph = .idle ∧ 129 ≠ 128 ∧ 129 ≠ 64 ∧ 129 ≠ 32 := by decide

theorem witness_GetgainAnswers :
    { base with sel := 0b01 }.sel = 0b01 ∧ { base with sel := 0b10 }.sel = 0b10 ∧ { base with sel := 0b11 }.sel = 0b11 ∧
    { base with sel := 0b00 }.sel = 0b00 := by decide

theorem witness_SavedGain : ∃ a, exec .getgain base = .next a := ⟨_, rfl⟩

/-- WAIT's three cases: ready; the last of two samples high; the first of two high. -/
theorem witness_WaitTick_ready :
    { base with ph := .wait, host := [quiet], din := [0] }.ph = .wait ∧
    ({ base with ph := .wait, host := [quiet], din := [0] }.hostAt 0).rst = 0 ∧
    { base with ph := .wait, host := [quiet], din := [0] }.dinAt 0 = 0 := by decide

theorem witness_WaitTick_timeout :
    let s := { base with ph := .wait, params := bounded, pollcnt := 1, host := [quiet], din := [1] }
    s.ph = .wait ∧ (s.hostAt 0).rst = 0 ∧ s.dinAt 0 = 1 ∧ s.params.pollLimit = some 2 ∧ 2 ≤ s.pollcnt + 1 := by decide

theorem witness_WaitTick_counts :
    let s := { base with ph := .wait, params := bounded, pollcnt := 0, host := [quiet], din := [1] }
    s.ph = .wait ∧ (s.hostAt 0).rst = 0 ∧ s.dinAt 0 = 1 ∧ ∀ n, s.params.pollLimit = some n → s.pollcnt + 1 < n := by
  refine ⟨rfl, rfl, rfl, ?_⟩
  rintro n ⟨⟩
  decide

theorem witness_BitTicks :
    ({ base with ph := .bitH, host := [quiet] }.hostAt 0).rst = 0 ∧ { base with ph := .bitH, host := [quiet] }.ph = .bitH ∧
    { base with ph := .bitL, bitcnt := 2, host := [quiet] }.ph = .bitL ∧ (2 : BitVec 5) ≠ 1 ∧
    { base with ph := .bitL, bitcnt := 1, host := [quiet] }.bitcnt = 1 := by decide

theorem witness_PulseTicks :
    ({ base with ph := .plsH, host := [quiet] }.hostAt 0).rst = 0 ∧ { base with ph := .plsH, host := [quiet] }.ph = .plsH ∧
    { base with ph := .plsL, plscnt := 1, host := [quiet] }.ph = .plsL := by decide

/-- A DEC state of READ that meets the invariant. -/
def decState : State := { base with ph := .dec, op := 1, host := [quiet] }

/-- The parameters of the test vectors are well formed. -/
theorem base_params_wellFormed : base.params.WellFormed := ⟨by rintro n ⟨⟩, by decide, by decide⟩

theorem decState_inv : decState.Inv :=
  ⟨base_params_wellFormed, by decide, by decide, by intro _; rfl, .inl rfl, by intro _; rfl, ⟨.inl rfl, rfl⟩⟩

theorem witness_DecTick :
    decState.ph = .dec ∧ (decState.hostAt 0).rst = 0 ∧ decState.Inv ∧ decState.op = 1 ∧
    { decState with op := 2 }.op = 2 ∧ { decState with op := 4 }.op ≠ 1 ∧ { decState with op := 4 }.op ≠ 2 :=
  ⟨rfl, rfl, decState_inv, rfl, rfl, by decide, by decide⟩

theorem witness_DelayTicks :
    ({ base with ph := .settle, dlycnt := 2, host := [quiet] }.hostAt 0).rst = 0 ∧
    1 < { base with ph := .settle, dlycnt := 2, host := [quiet] }.dlycnt ∧
    { base with ph := .settle, dlycnt := 1, host := [quiet] }.dlycnt ≤ 1 ∧
    { base with ph := .pdRise, host := [quiet] }.ph = .pdRise ∧
    1 < { base with ph := .pdHold, dlycnt := 2, host := [quiet] }.dlycnt ∧
    { base with ph := .pdHold, dlycnt := 1, op := 4, host := [quiet] }.op = 4 ∧
    { base with ph := .pdHold, dlycnt := 1, op := 6, host := [quiet] }.op = 6 ∧
    { base with ph := .pdHold, dlycnt := 1, op := 1, host := [quiet] }.op ≠ 4 ∧
    { base with ph := .pdHold, dlycnt := 1, op := 1, host := [quiet] }.op ≠ 6 := by decide

/-- A reachable state and its next: the witness of the statements about the invariant and the phase graph. -/
theorem witness_Invariant : decState.Inv ∧ ∃ t, step decState = .next t := ⟨decState_inv, _, rfl⟩

/-- With `rst` high as well, the other clause of the phase graph. -/
theorem witness_StepsFollowThePhaseGraph :
    decState.Inv ∧ (decState.hostAt 0).rst = 0 ∧
    ({ decState with host := [{ rst := 1, cmdValid := 0, cmd := 0 }] }.hostAt 0).rst = 1 := ⟨decState_inv, rfl, rfl⟩

theorem witness_SelChanges : ∃ t, step (given 0x2040) = .next t ∧ t.sel ≠ (given 0x2040).sel :=
  ⟨_, rfl, by decide⟩

theorem witness_ShrChanges :
    let s := { base with ph := .bitL, bitcnt := 24, host := [quiet], din := [1] }
    ∃ t, step s = .next t ∧ (s.hostAt 0).rst = 0 ∧ t.shr ≠ s.shr := ⟨_, rfl, rfl, by decide⟩

theorem witness_SckChanges :
    let s := { base with ph := .bitH, host := [quiet] }
    ∃ t, step s = .next t ∧ t.sck ≠ s.sck := ⟨_, rfl, by decide⟩

theorem witness_BusyFalls : decState.Inv ∧ decState.busy = 1 ∧ (decState.hostAt 0).rst = 0 ∧ ∃ t, step decState = .next t :=
  ⟨decState_inv, rfl, rfl, _, rfl⟩

/-- The three clauses: an idle step without a command; a response dropped by an accept tick; no response after a step. -/
theorem witness_ResponseHolds :
    (∃ t, step { base with host := [quiet] } = .next t ∧ base.ph = .idle ∧ t.rspValid = 0) ∧
    ∃ t, step { given 0x1000 with rspValid := 1 } = .next t ∧ ((given 0x1000).hostAt 0).rst = 0 ∧ t.rspValid = 0 :=
  ⟨⟨_, rfl, rfl, rfl⟩, ⟨_, rfl, rfl, rfl⟩⟩

/-- A BIT_L state that meets the invariant. -/
def bitLState : State := { base with ph := .bitL, op := 1, bitcnt := 24, sck := 1, host := [quiet], din := [1] }

theorem witness_HighClock :
    bitLState.Inv ∧ bitLState.sck = 1 ∧ bitLState.ph ≠ .idle ∧ bitLState.ph ≠ .wait ∧ bitLState.ph ≠ .pdHold ∧
    ¬ (bitLState.ph = .bitH ∧ bitLState.bitcnt = 24) ∧ ∃ t, step bitLState = .next t :=
  ⟨⟨base_params_wellFormed, by decide, by decide, by intro _; rfl, .inl rfl, by intro _; rfl, ⟨.inl rfl, by decide, rfl⟩⟩,
    rfl, by decide, by decide, by decide, by decide, _, rfl⟩

/-- The reference instantiation conforms (00_scope.md R4). -/
theorem reference_conforms : Config.reference.Conforms :=
  ⟨⟨by rintro n ⟨⟩, by decide, by decide⟩, by decide, by decide, by decide, by decide⟩

/-- A WAIT state that sees DIN low, with quiet inputs for a whole frame. -/
def readyState : State := { base with ph := .wait, op := 1, host := quietFor 60, din := List.replicate 60 0 }

theorem witness_FrameLemma :
    1 = pulses readyState.sel ∧ readyState.sel ≠ 0 ∧ readyState.ph = .wait ∧ readyState.dinAt 0 = 0 ∧
    readyState.NoRst (49 + 2 * 1) ∧ 1 ≤ 49 + 2 * 1 ∧ 49 + 2 * 1 ≤ 49 + 2 * 1 :=
  ⟨by decide, by decide, rfl, rfl, fun j hj => noRst_quiet readyState 60 rfl j (by omega), by decide, by decide⟩

theorem witness_OldShiftRegister :
    let s := { base with ph := .bitH, bitcnt := 24, host := quietFor 60 }
    s.ph = .bitH ∧ s.bitcnt = 24 ∧ s.NoRst 48 :=
  ⟨rfl, rfl, fun j hj => noRst_quiet _ 60 rfl j (by omega)⟩

/-- READ's accept tick leaves this state, from the same state without the accept tick's writes. -/
def readStart (l : Option Nat) (d : List Bit) : State :=
  { base with params := { base.params with pollLimit := l }, host := quietFor 60, din := d }

theorem witness_ReadAsOneStep_ok :
    let s := readStart none [1, 0]
    ∃ t, exec .read s = .next t ∧ 1 = pulses s.sel ∧ s.sel ≠ 0 ∧ s.params.Allows 1 ∧ t.DinHigh 1 ∧ t.dinAt 1 = 0 ∧
      t.NoRst (1 + 2 * 1 + 50) :=
  ⟨_, rfl, by decide, by decide, by rintro n ⟨⟩, by intro j hj; obtain rfl : j = 0 := by omega
                                                    rfl, rfl,
    fun j hj => noRst_quiet _ 60 rfl j (by omega)⟩

/-- At the boundary: the low sample is the last the limit allows. -/
theorem witness_ReadAsOneStep_last_sample :
    let s := readStart (some 2) [1, 0]
    ∃ t, exec .read s = .next t ∧ s.params.Allows 1 ∧ t.DinHigh 1 ∧ t.dinAt 1 = 0 :=
  ⟨_, rfl, by rintro n ⟨⟩; decide, by intro j hj; obtain rfl : j = 0 := by omega
                                      rfl, rfl⟩

theorem witness_ReadAsOneStep_timeout :
    let s := readStart (some 1) [1]
    ∃ t, exec .read s = .next t ∧ 1 ≤ 1 ∧ s.params.pollLimit = some 1 ∧ t.DinHigh 1 ∧ t.NoRst 1 :=
  ⟨_, rfl, by decide, rfl, by intro j hj; obtain rfl : j = 0 := by omega
                              rfl,
    fun j hj => noRst_quiet _ 60 rfl j (by omega)⟩

/-- A line held low is low in every tick it is held. -/
theorem dinAt_low (s : State) (n k : Nat) (h : s.din = List.replicate n 0) (hk : k < n) : s.dinAt k = 0 := by
  simp [State.dinAt, h, List.getD_eq_getElem?_getD, hk]

theorem witness_ReadDelivers :
    1 = pulses readyState.sel ∧ readyState.sel ≠ 0 ∧ readyState.ph = .wait ∧ readyState.op = 1 ∧
    readyState.DevicePresents 0 ∧ readyState.NoRst (50 + 2 * 1) := by
  refine ⟨by decide, by decide, rfl, rfl, ⟨rfl, ?_⟩, fun j hj => noRst_quiet readyState 60 rfl j (by omega)⟩
  intro i _ h2
  exact (dinAt_low readyState 60 (2 * i) rfl (by omega)).trans (by simp)

theorem witness_UnboundedWait :
    let s := { base with ph := .wait, host := quietFor 3, din := [1, 1, 1] }
    s.ph = .wait ∧ s.params.pollLimit = none ∧ s.DinHigh 3 ∧ s.NoRst 3 := by decide

/-- The three supported gains. -/
theorem witness_SetgainAsOneStep :
    ∀ gx ∈ [(128, (0b01 : BitVec 2), 1), (32, 0b10, 2), (64, 0b11, 3)],
    (gx.1 = 128 ∧ gx.2.1 = 0b01 ∨ gx.1 = 32 ∧ gx.2.1 = 0b10 ∨ gx.1 = 64 ∧ gx.2.1 = 0b11) ∧
    ∃ t, exec (.setgain gx.1) (readStart none [1, 0]) = .next t ∧ gx.2.2 = pulses gx.2.1 ∧
      1 ≤ (readStart none [1, 0]).params.nSettle ∧ (readStart none [1, 0]).params.Allows 1 ∧ t.DinHigh 1 ∧ t.dinAt 1 = 0 ∧
      t.NoRst (1 + 2 * gx.2.2 + 50 + (readStart none [1, 0]).params.nSettle) := by
  have h1 (t : State) (h : t.din = [1, 0]) : t.DinHigh 1 := by
    intro j hj; obtain rfl : j = 0 := by omega
    simp [State.dinAt, h]
  have h2 (t : State) (n : Nat) (h : t.host = quietFor 60) (hn : n ≤ 60) : t.NoRst n :=
    fun j hj => noRst_quiet t 60 h j (by omega)
  simp only [List.mem_cons, List.not_mem_nil, or_false]
  rintro gx (rfl | rfl | rfl) <;>
    exact ⟨by decide, _, rfl, by decide, by decide, by rintro n ⟨⟩, h1 _ rfl, rfl, h2 _ _ rfl (by decide)⟩

theorem witness_TimedOutSetgain :
    let s := readStart (some 1) [1]
    ∃ t, exec (.setgain 32) s = .next t ∧ 1 ≤ 1 ∧ s.params.pollLimit = some 1 ∧ t.DinHigh 1 ∧ t.NoRst 1 :=
  ⟨_, rfl, by decide, rfl, by intro j hj; obtain rfl : j = 0 := by omega
                              rfl,
    fun j hj => noRst_quiet _ 60 rfl j (by omega)⟩

theorem witness_Pwrdn :
    let s := readStart none []
    ∃ t, exec .pwrdn s = .next t ∧ 1 ≤ s.params.nPdhold ∧ t.NoRst (s.params.nPdhold + 1) ∧ Config.reference.Conforms :=
  ⟨_, rfl, by decide, fun j hj => noRst_quiet _ 60 rfl j (Nat.lt_of_lt_of_le hj (by decide)), reference_conforms⟩

/-- An idle block with its clock high and a quiet host, as PWRDN leaves it. -/
def afterPwrdn : State := { base with sck := 1, rspValid := 1, op := 4, host := quietFor 3 }

theorem witness_PwrdnHoldsTheClockHigh_after :
    ∀ j, j < 3 → (afterPwrdn.hostAt j).rst = 0 ∧ (afterPwrdn.hostAt j).cmdValid = 0 := by decide

theorem witness_Pwrup :
    let s := readStart none []
    ∃ t, exec .pwrup s = .next t ∧ 1 ≤ s.params.nSettle ∧ t.NoRst s.params.nSettle :=
  ⟨_, rfl, by decide, fun j hj => noRst_quiet _ 60 rfl j (Nat.lt_of_lt_of_le hj (by decide))⟩

theorem witness_ResetCommand :
    let s := readStart none []
    ∃ t, exec .reset s = .next t ∧ 1 ≤ s.params.nPdhold ∧ 1 ≤ s.params.nSettle ∧
      t.NoRst (s.params.nPdhold + s.params.nSettle + 1) :=
  ⟨_, rfl, by decide, by decide, fun j hj => noRst_quiet _ 60 rfl j (Nat.lt_of_lt_of_le hj (by decide))⟩

/-- The reference instantiation with a command presented and a quiet host for a whole settle delay. -/
def conformingStart (w : Word) (d : List Bit) : State :=
  { State.reset with host := { rst := 0, cmdValid := 1, cmd := w } :: quietFor 500000, din := d }

theorem conformingStart_noRst (w : Word) (d : List Bit) (n : Nat) (h : n ≤ 500001) : (conformingStart w d).NoRst n :=
  fun j hj => noRst_present (conformingStart w d) 500000 w rfl j (by omega)

theorem witness_PwrdnPutsTheDeviceToSleep :
    (conformingStart 0x4000 []).ph = .idle ∧ (conformingStart 0x4000 []).Presents .pwrdn ∧
    (conformingStart 0x4000 []).params.Conforms ∧
    (conformingStart 0x4000 []).NoRst ((conformingStart 0x4000 []).params.nPdhold + 2) :=
  ⟨rfl, ⟨rfl, rfl, rfl⟩, reference_conforms, conformingStart_noRst _ _ _ (by decide)⟩

theorem witness_ResetCommandRecoversTheDevice :
    (conformingStart 0x6000 []).ph = .idle ∧ (conformingStart 0x6000 []).Presents .reset ∧
    (conformingStart 0x6000 []).params.Conforms ∧
    (conformingStart 0x6000 []).NoRst
      ((conformingStart 0x6000 []).params.nPdhold + (conformingStart 0x6000 []).params.nSettle + 2) :=
  ⟨rfl, ⟨rfl, rfl, rfl⟩, reference_conforms, conformingStart_noRst _ _ _ (by decide)⟩

theorem witness_SetgainMakesSamplesTrusted :
    let s := conformingStart 0x2040 [1, 1, 0]
    let v := { DeviceView.unknown with inStep := true }
    s.ph = .idle ∧ s.Presents (.setgain 64) ∧ 3 = pulses 0b11 ∧ s.params.Conforms ∧ s.params.Allows 1 ∧
    (∀ j, j < 1 → s.dinAt (j + 1) = 1) ∧ s.dinAt (1 + 1) = 0 ∧ s.NoRst (1 + 2 * 3 + 51 + s.params.nSettle) ∧
    v.inStep = true ∧ ¬ s.params.IdleTooLong (v.idle + 1 + 2) :=
  ⟨rfl, ⟨rfl, rfl, rfl⟩, by decide, reference_conforms, by rintro n ⟨⟩,
    by intro j hj; obtain rfl : j = 0 := by omega
       rfl,
    rfl, conformingStart_noRst _ _ _ (by decide), rfl,
    by simp [Params.IdleTooLong, Config.idleMicros, conformingStart, State.reset, Config.reference, DeviceView.unknown]; omega⟩

/-- The first count of ticks of 1 µs that is too long, whatever the source's "few seconds" are. -/
def tooLong : Nat := Config.idleMicros + 1

theorem tooLong_isTooLong : base.params.IdleTooLong tooLong := by simp [Params.IdleTooLong, tooLong, base]

theorem witness_TooLongIdleBus :
    let s := { base with host := quietFor 1 }
    let v := { DeviceView.unknown with inStep := true, idle := Config.idleMicros }
    s.ph = .idle ∧ (∀ j, j < 1 → (s.hostAt j).rst = 0 ∧ (s.hostAt j).cmdValid = 0) ∧ s.params.IdleTooLong (v.idle + 1) :=
  ⟨rfl, by decide, tooLong_isTooLong⟩

/-- A ready device and a tick of 2 µs, at which a frame lasts 100 µs or more (70_reset_and_hazards.md R144). -/
def slowClock : State :=
  { base with ph := .wait, op := 1, params := { Config.reference with tickNum := 2 }, host := [quiet], din := [0] }

/-- Each event that loses the device. -/
theorem witness_UndefinedEvents :
    (∃ s t, step s = .next t ∧ (s.hostAt 0).rst = 1) ∧
    (∃ s t, step s = .next t ∧ s.ph = .wait ∧ t.ph = .bitH ∧ s.sck = 1) ∧
    (∃ s t, step s = .next t ∧ s.ph = .wait ∧ t.ph = .bitH ∧ 60 * s.params.tickDen ≤ 54 * s.params.tickNum) ∧
    (∃ s t, step s = .next t ∧ s.ph = .wait ∧ t.rspValid = 1 ∧ t.ph = .idle) ∧
    (∃ s t, step s = .next t ∧ s.ph = .idle ∧ s.Presents .pwrdn ∧ s.sck = 1) ∧
    ∃ (s t : State) (v : DeviceView), step s = .next t ∧ s.ph = .idle ∧ s.params.IdleTooLong (v.idle + 1) :=
  ⟨⟨{ base with host := [{ rst := 1, cmdValid := 0, cmd := 0 }] }, _, rfl, rfl⟩,
    ⟨{ base with ph := .wait, op := 1, sck := 1, host := [quiet], din := [0] }, _, rfl, rfl, rfl, rfl⟩,
    ⟨slowClock, _, rfl, rfl, rfl, by decide⟩,
    ⟨lastSample 1, _, rfl, rfl, rfl, rfl⟩,
    ⟨{ given 0x4000 with sck := 1 }, _, rfl, rfl, ⟨rfl, rfl, rfl⟩, rfl⟩,
    ⟨{ base with host := [quiet] }, _, { DeviceView.unknown with idle := Config.idleMicros }, rfl, rfl, tooLong_isTooLong⟩⟩

/-- The last tick of a RESET command. -/
def resetEnds : State := { base with ph := .settle, op := 6, dlycnt := 1, host := [quiet] }

/-- The last tick of a RESET command, and a tick that is none of one, both with a device out of step. -/
theorem witness_OnlyTheResetCommandRecovers :
    DeviceView.unknown.inStep = false ∧
    (∃ t, step resetEnds = .next t ∧ (DeviceView.unknown.observe resetEnds t).inStep = true) ∧
    ∃ t, step { base with host := [quiet] } = .next t ∧
      (DeviceView.unknown.observe { base with host := [quiet] } t).inStep = false := by
  refine ⟨rfl, ⟨_, rfl, ?_⟩, _, rfl, by simp [DeviceView.inStepAfter, DeviceView.unknown, endsReset, base, State.reset]⟩
  rw [observe_inStep, inStepAfter_iff]
  refine ⟨?_, .inl rfl⟩
  rw [Bool.eq_false_iff, ne_eq, loses_iff, idleAfter_of_usesBus rfl]
  simp [resetEnds, base, State.hostAt, quiet]

/-- Each of the three times broken alone: a slow clock, a short hold, a short settle delay. -/
theorem witness_BrokenTiming :
    (∃ u, ticks 1 slowClock = .next u ∧ 60 * slowClock.params.tickDen ≤ 54 * slowClock.params.tickNum ∧
      60 * slowClock.params.tickDen ≤ slowClock.params.nPdhold * slowClock.params.tickNum ∧
      400000 * slowClock.params.tickDen ≤ slowClock.params.nSettle * slowClock.params.tickNum) ∧
    (∃ s u, ticks 1 s = .next u ∧ s.params.nPdhold * s.params.tickNum < 60 * s.params.tickDen ∧
      400000 * s.params.tickDen ≤ s.params.nSettle * s.params.tickNum) ∧
    ∃ s u, ticks 1 s = .next u ∧ s.params.nSettle * s.params.tickNum < 400000 * s.params.tickDen ∧
      60 * s.params.tickDen ≤ s.params.nPdhold * s.params.tickNum :=
  ⟨⟨_, rfl, by decide, by decide, by decide⟩,
    ⟨{ slowClock with params := { Config.reference with nPdhold := 59 } }, _, rfl, by decide, by decide⟩,
    { slowClock with params := { Config.reference with nSettle := 399999 } }, _, rfl, by decide, by decide⟩

theorem witness_ReadWithClockHigh :
    let s := { conformingStart 0x1000 [1, 1, 0] with sck := 1 }
    s.ReadsWithClockHigh ∧ 1 = pulses s.sel ∧ s.sel ≠ 0 ∧ s.params.Allows 1 ∧ (∀ j, j < 1 → s.dinAt (j + 1) = 1) ∧
    s.dinAt (1 + 1) = 0 ∧ s.NoRst (1 + 2 * 1 + 51) :=
  ⟨⟨rfl, ⟨rfl, rfl, rfl⟩, rfl⟩, by decide, by decide, by rintro n ⟨⟩,
    by intro j hj; obtain rfl : j = 0 := by omega
       rfl,
    rfl, fun j hj => noRst_present _ 500000 0x1000 rfl j (by omega)⟩

end Sys2Proof.Tests
end

section
/-! PROOFS. The decoder by its two fields, the accept tick of a presented word, and the selection tables
(30_encoding.md). -/

namespace Sys2Proof

variable {w : Word} {i : Instr}

/-! ### The fields of a word -/

theorem opndField_lt (w : Word) : opndField w < 4096 := (w.extractLsb' 0 12).isLt

theorem opndField_eq_zero_iff : opndField w = 0 ↔ w.extractLsb' 0 12 = 0 :=
  BitVec.toNat_inj (y := 0)

/-- A word is its opcode field followed by its operand field (30_encoding.md R50). -/
theorem opcField_append_opndField (w : Word) : opcField w ++ BitVec.ofNat 12 (opndField w) = w := by
  have adjacent := BitVec.extractLsb'_append_extractLsb'_eq_extractLsb' (x := w) (start₁ := 0) (len₁ := 12)
    (start₂ := 12) (len₂ := 4) rfl
  rw [opndField, BitVec.ofNat_toNat, BitVec.setWidth_eq, opcField, adjacent]
  exact BitVec.extractLsb'_eq_self

/-! ### The decoder -/

theorem decodeBare_eq_ok {n : Nat} {j : Instr} : decodeBare j n = .ok i ↔ n = 0 ∧ j = i := by
  by_cases h : n = 0 <;> simp [decodeBare, h]

/-- What a row without operand decodes has the row's opcode and the operand field's value, which is 0. -/
theorem fields_of_decodeBare {o : BitVec 4} {n : Nat} {j : Instr} (h : decodeBare j n = .ok i) (ho : o = j.opcode)
    (hj : j.operand = 0) : i.opcode = o ∧ i.operand = n := by
  obtain ⟨rfl, rfl⟩ := decodeBare_eq_ok.mp h
  exact ⟨ho.symm, hj⟩

/-- A word decodes to the one command with its opcode and its operand. -/
theorem decode_eq_ok_iff : decode w = .ok i ↔ i.opcode = opcField w ∧ i.operand = opndField w := by
  constructor
  · intro h
    unfold decode at h
    split_ifs at h with h1 h2 h3 h4 h5 h6
    · exact fields_of_decodeBare h h1 rfl
    · obtain rfl := Except.ok.inj h; exact ⟨h2.symm, rfl⟩
    · exact fields_of_decodeBare h h3 rfl
    · exact fields_of_decodeBare h h4 rfl
    · exact fields_of_decodeBare h h5 rfl
    · exact fields_of_decodeBare h h6 rfl
  · rintro ⟨ho, hn⟩
    rw [decode, ← ho, ← hn]
    cases i <;> rfl

/-- Only well-formed commands are decoded: an operand field has 12 bits (30_encoding.md R53). -/
theorem wellFormed_of_decode (h : decode w = .ok i) : i.WellFormed := by
  obtain ⟨-, hn⟩ := decode_eq_ok_iff.mp h
  cases i with
  | setgain g => exact decide_eq_true ((show g = opndField w from hn) ▸ opndField_lt w)
  | _ => rfl

/-- A decoded word is the encoding of its command: decoding drops no bit (30_encoding.md R57). -/
theorem encode_of_decode (h : decode w = .ok i) : encode i = w := by
  obtain ⟨ho, hn⟩ := decode_eq_ok_iff.mp h
  rw [encode, ho, hn, opcField_append_opndField]

/-- The opcodes that are not reserved (30_encoding.md R52, R56). -/
theorem opcode_cases_of_not_reserved {o : BitVec 4} (h0 : o ≠ 0) (h7 : ¬ 7 ≤ o.toNat) :
    o = 1 ∨ o = 2 ∨ o = 3 ∨ o = 4 ∨ o = 5 ∨ o = 6 := by
  revert o; decide

/-- There is a command with a given opcode and operand unless the opcode is reserved or the operand is nonzero where 0
is required (30_encoding.md R56, R57). -/
theorem exists_command_iff {o : BitVec 4} {n : Nat} :
    (∃ i : Instr, i.opcode = o ∧ i.operand = n) ↔ ¬ (o = 0 ∨ 7 ≤ o.toNat ∨ (o ≠ 2 ∧ n ≠ 0)) := by
  constructor
  · rintro ⟨i, rfl, rfl⟩
    cases i <;> simp [Instr.opcode, Instr.operand]
  · intro h
    obtain ⟨h0, h7, hn⟩ : o ≠ 0 ∧ ¬ 7 ≤ o.toNat ∧ (o ≠ 2 → n = 0) := by simpa using h
    rcases opcode_cases_of_not_reserved h0 h7 with rfl | rfl | rfl | rfl | rfl | rfl
    · exact ⟨.read, rfl, (hn (by decide)).symm⟩
    · exact ⟨.setgain n, rfl, rfl⟩
    · exact ⟨.getgain, rfl, (hn (by decide)).symm⟩
    · exact ⟨.pwrdn, rfl, (hn (by decide)).symm⟩
    · exact ⟨.pwrup, rfl, (hn (by decide)).symm⟩
    · exact ⟨.reset, rfl, (hn (by decide)).symm⟩

/-- The words that decode to a command, by their bits (30_encoding.md R56, R57). -/
theorem exists_decode_iff :
    (∃ i, decode w = .ok i) ↔
      ¬ (w.extractLsb' 12 4 = 0 ∨ 7 ≤ (w.extractLsb' 12 4).toNat ∨
        (w.extractLsb' 12 4 ≠ 2 ∧ w.extractLsb' 0 12 ≠ 0)) := by
  simp only [decode_eq_ok_iff, exists_command_iff, ne_eq, opndField_eq_zero_iff, opcField]

end Sys2Proof

namespace Sys2Proof.Machine

variable {s : State} {w : Word}

/-! ### The accept tick of a presented word -/

/-- In IDLE a presented word is what the step accepts (40_sequencer.md R71). -/
theorem step_presented (p : s.ph = .idle) (h : s.hostAt 0 = { rst := 0, cmdValid := 1, cmd := w }) :
    step s = tickIdle s.advance 1 w := by
  rw [step_idle p (by rw [h]), h]

/-- The accept tick of a word that decodes to `i` is that of `i`. -/
theorem tickIdle_of_decode {i : Instr} (h : decode w = .ok i) : tickIdle s 1 w = exec i s := by
  simp [tickIdle, h]

/-- The accept tick of a word that encodes no command raises IllegalCommand (60_exceptions.md R123). -/
theorem tickIdle_of_not_decode (h : ¬ ∃ i, decode w = .ok i) :
    tickIdle s 1 w = .next (s.dropResponse.raise .illegalCommand) := by
  cases hd : decode w with
  | ok i => exact absurd ⟨i, hd⟩ h
  | error e => simp [tickIdle, hd]

/-- Raising IllegalCommand in IDLE changes nothing but the response (60_exceptions.md R123). -/
theorem raise_illegalCommand_of_idle (p : s.ph = .idle) :
    s.dropResponse.raise .illegalCommand = { s with rspValid := 1, rspSt := 5, rspData := 0 } := by
  cases s; cases p; rfl

/-- Settles O4: a word is a command exactly if its bits say so (`exists_decode_iff`); otherwise its accept tick raises. -/
theorem reservedWordsAnswerIllegalCommand : Obligations.ReservedWordsAnswerIllegalCommand := by
  intro s w p h
  rw [step_presented p h]
  constructor
  · intro hw
    rw [tickIdle_of_not_decode fun hi => exists_decode_iff.mp hi hw, raise_illegalCommand_of_idle (s := s.advance) p]
  · intro hw
    obtain ⟨i, hi⟩ := exists_decode_iff.mpr hw
    exact ⟨i, wellFormed_of_decode hi, encode_of_decode hi, tickIdle_of_decode hi⟩

/-! ### The selection tables -/

/-- GETGAIN's table row by row (30_encoding.md R55). -/
theorem gainOf_eq_some {g : Nat} {x : BitVec 2} :
    gainOf x = some g ↔ g = 128 ∧ x = 0b01 ∨ g = 32 ∧ x = 0b10 ∨ g = 64 ∧ x = 0b11 := by
  unfold gainOf
  split_ifs with h1 h2 h3
  · subst h1; simp [eq_comm]
  · subst h2; simp [eq_comm]
  · subst h3; simp [eq_comm]
  · refine iff_of_false (by simp) ?_
    rintro (⟨-, h⟩ | ⟨-, h⟩ | ⟨-, h⟩)
    exacts [h1 h, h2 h, h3 h]

/-- The two tables are inverse to each other (30_encoding.md R54, R55). -/
theorem selOf_eq_some_iff_gainOf {g : Nat} {x : BitVec 2} : selOf g = some x ↔ gainOf x = some g :=
  selOf_eq_some.trans gainOf_eq_some.symm

/-- With no selection armed GETGAIN is refused (30_encoding.md R55). -/
theorem exec_getgain_of_unarmed (h : s.sel = 0b00) : exec .getgain s = .refused .noGainArmed := by
  rw [exec, execGetgain, h]
  rfl

/-- Settles O5: the rows by evaluation, the rest by the tables' laws. -/
theorem selectionTablesAgree : Obligations.SelectionTablesAgree :=
  ⟨rfl, rfl, rfl, fun _ h128 h32 h64 => selOf_eq_none.mpr ⟨h128, h64, h32⟩,
    rfl, rfl, rfl, rfl, rfl, rfl, rfl, fun _ => rfl, rfl, rfl, rfl,
    fun _ => exec_getgain_of_unarmed,
    fun _ _ => selOf_eq_some_iff_gainOf.mp, fun _ _ => selOf_eq_some_iff_gainOf.mpr⟩

end Sys2Proof.Machine
end

section
/-! PROOFS. The sequencer: command inputs outside IDLE, the accept tick by the command table, DEC, and the states of a
frame tick by tick (40_sequencer.md). -/

namespace Sys2Proof.Machine

variable {s t u : State} {i : Instr} {w : Word}

/-! ### Outside IDLE -/

/-- Settles O10: only IDLE's branch of the tick function mentions the command inputs. -/
theorem busyBlockIgnoresCommands : Obligations.BusyBlockIgnoresCommands := by
  intro s rst v v' d w w' h
  cases p : s.ph with
  | idle => exact absurd p h
  | _ => simp [tick, p]

/-! ### The accept tick -/

/-- The operand field has the value of a 12-bit number exactly if it is that number. -/
theorem opndField_eq_toNat_iff {x : BitVec 12} : opndField w = x.toNat ↔ w.extractLsb' 0 12 = x :=
  BitVec.toNat_inj

/-- In IDLE without a command only the inputs move on (40_sequencer.md R71). -/
theorem step_idle_quiet (p : s.ph = .idle) (hr : (s.hostAt 0).rst = 0) (hv : (s.hostAt 0).cmdValid = 0) :
    step s = .next s.advance := by
  simp [step_idle p hr, tickIdle, hv]

/-- The accept tick of a word that decodes to `i` (40_sequencer.md R71). -/
theorem step_accepts (p : s.ph = .idle) (hr : (s.hostAt 0).rst = 0) (hv : (s.hostAt 0).cmdValid = 1)
    (hd : decode (s.hostAt 0).cmd = .ok i) : step s = exec i s.advance := by
  rw [step_idle p hr, hv, tickIdle_of_decode hd]

/-- The accept tick of a word whose two fields are those of `i` (30_encoding.md R50). -/
theorem step_accepts_of_fields {x : BitVec 12} (p : s.ph = .idle) (hr : (s.hostAt 0).rst = 0)
    (hv : (s.hostAt 0).cmdValid = 1) (ho : (s.hostAt 0).cmd.extractLsb' 12 4 = i.opcode)
    (hx : (s.hostAt 0).cmd.extractLsb' 0 12 = x) (hi : i.operand = x.toNat) : step s = exec i s.advance :=
  step_accepts p hr hv (decode_eq_ok_iff.mpr ⟨ho.symm, hi.trans (opndField_eq_toNat_iff.mpr hx).symm⟩)

/-- The accept tick of a word that encodes no command (60_exceptions.md R123). -/
theorem step_rejects (p : s.ph = .idle) (hr : (s.hostAt 0).rst = 0) (hv : (s.hostAt 0).cmdValid = 1)
    (hd : ¬ ∃ i, decode (s.hostAt 0).cmd = .ok i) :
    step s = .next { s.advance with rspValid := 1, rspSt := 5, rspData := 0 } := by
  rw [step_idle p hr, hv, tickIdle_of_not_decode hd, raise_illegalCommand_of_idle (s := s.advance) p]

/-- An unsupported gain changes nothing but the response in IDLE (42_gain_select.md R101). -/
theorem exec_setgain_of_unsupported {g : Nat} (p : s.ph = .idle) (hg : selOf g = none) :
    exec (.setgain g) s = .next { s with rspValid := 1, rspSt := 2, rspData := 0 } := by
  rw [exec, execSetgain, hg]
  cases s; cases p; rfl

/-- GETGAIN's accept tick for the four values of SEL (42_gain_select.md R103, 30_encoding.md R55). -/
theorem exec_getgain_eq : exec .getgain s =
    if s.sel = 0b01 then .next { s with rspValid := 1, rspSt := 0, rspData := 128 }
    else if s.sel = 0b10 then .next { s with rspValid := 1, rspSt := 0, rspData := 32 }
    else if s.sel = 0b11 then .next { s with rspValid := 1, rspSt := 0, rspData := 64 }
    else .refused .noGainArmed := by
  rw [exec, execGetgain, gainOf]
  split_ifs <;> rfl

/-- Settles O13: the bits of the word name the command that decodes from it, and the row is the command's accept tick. -/
theorem acceptTickFollowsTheCommandTable : Obligations.AcceptTickFollowsTheCommandTable := by
  rintro s w p hr rfl
  refine ⟨step_idle_quiet p hr, fun hv => ?_⟩
  have accept := fun i x => step_accepts_of_fields (i := i) (x := x) p hr hv
  refine ⟨?read, ?gain128, ?gain32, ?gain64, ?unsupported, ?getgain, ?pwrdn, ?pwrup, ?reset, ?reserved⟩
  case read => exact fun ho hn => accept .read 0 ho hn rfl
  case gain128 => exact fun ho hn => accept (.setgain 128) 128 ho hn rfl
  case gain32 => exact fun ho hn => accept (.setgain 32) 32 ho hn rfl
  case gain64 => exact fun ho hn => accept (.setgain 64) 64 ho hn rfl
  case unsupported =>
    intro ho h128 h32 h64
    have hg : selOf (opndField (s.hostAt 0).cmd) = none := selOf_eq_none.mpr
      ⟨mt (opndField_eq_toNat_iff (x := 128)).mp h128, mt (opndField_eq_toNat_iff (x := 64)).mp h64,
        mt (opndField_eq_toNat_iff (x := 32)).mp h32⟩
    rw [accept (.setgain (opndField (s.hostAt 0).cmd)) _ ho rfl rfl]
    exact exec_setgain_of_unsupported (s := s.advance) p hg
  case getgain => exact fun ho hn => (accept .getgain 0 ho hn rfl).trans exec_getgain_eq
  case pwrdn => exact fun ho hn => accept .pwrdn 0 ho hn rfl
  case pwrup => exact fun ho hn => accept .pwrup 0 ho hn rfl
  case reset => exact fun ho hn => accept .reset 0 ho hn rfl
  case reserved => exact fun hw => step_rejects p hr hv fun hi => exists_decode_iff.mp hi hw

/-! ### DEC -/

/-- The source's decoding is two's complement (41_protocol_reader.md R94). -/
theorem decode24_eq_toInt (v : Sample) : decode24 v = v.toInt := by
  rw [decode24, BitVec.toInt_eq_msb_cond, BitVec.toNat_not]
  have := v.isLt
  split <;> omega

/-- The response's form of a sample is the integer the source decodes (41_protocol_reader.md R94). -/
theorem sext32_toInt (v : Sample) : (sext32 v).toInt = decode24 v := by
  rw [sext32, BitVec.toInt_signExtend_of_le (by decide), decode24_eq_toInt]

/-- Where the invariant holds DEC belongs to READ or SETGAIN (40_sequencer.md R78). -/
theorem op_of_inv_dec (hi : s.Inv) (p : s.ph = .dec) : s.op = opRead ∨ s.op = opSetgain := by
  have inv := hi.phase
  rw [State.PhaseInv, p] at inv
  obtain ⟨owner, -⟩ := inv
  exact owner

/-- Settles O22: DEC's three branches by OP. -/
theorem decTickDeliversOrSettles : Obligations.DecTickDeliversOrSettles := by
  intro s p hr
  refine ⟨sext32_toInt s.shr, fun hi => op_of_inv_dec hi p, ?_⟩
  rw [step_dec p hr, tickDec]
  refine ⟨fun h1 => if_pos h1, fun h2 => ?_, fun h1 h2 => ?_⟩
  · exact (if_neg (by simp [h2, opRead])).trans (if_pos h2)
  · exact (if_neg h1).trans (if_neg h2)

/-! ### Counting down -/

/-- One more counted off a register that has counted `m` off `x`. -/
theorem counted_sub_one {n : Nat} (x : BitVec n) (m : Nat) :
    x - BitVec.ofNat n m - 1 = x - BitVec.ofNat n (m + 1) := by
  rw [BitVec.ofNat_add, BitVec.sub_sub]; rfl

/-- A register that has counted `m` off `x` is at 1 exactly before the last count. -/
theorem counted_eq_one_iff {n m : Nat} {x : BitVec n} (h : m < x.toNat) :
    x - BitVec.ofNat n m = 1 ↔ m + 1 = x.toNat := by
  have hx := x.isLt
  have hm : m % 2 ^ n = m := Nat.mod_eq_of_lt (h.trans hx)
  have one : (1 : BitVec n).toNat = 1 := (BitVec.toNat_ofNat 1 n).trans (Nat.mod_eq_of_lt (by omega))
  have counted : (x - BitVec.ofNat n m).toNat = x.toNat - m := by
    rw [BitVec.toNat_sub_of_le (by simpa [BitVec.le_def, hm] using h.le), BitVec.toNat_ofNat, hm]
  rw [← BitVec.toNat_inj, counted, one]
  omega

/-! ### The ticks of a frame, exactly -/

/-- BIT_H raises the clock (40_sequencer.md R74). -/
theorem step_bitH_eq (p : s.ph = .bitH) (hr : (s.hostAt 0).rst = 0) :
    step s = .next { s.advance with sck := 1, ph := .bitL } := step_bitH p hr

/-- BIT_L samples a bit and lowers the clock; before the last bit the next one follows (40_sequencer.md R75). -/
theorem step_bitL_more (p : s.ph = .bitL) (hr : (s.hostAt 0).rst = 0) (hb : s.bitcnt ≠ 1) :
    step s = .next
      { s.advance with sck := 0, shr := shiftIn s.shr (s.dinAt 0), bitcnt := s.bitcnt - 1, ph := .bitH } :=
  (step_bitL p hr).trans (if_neg hb)

/-- After the last data bit BIT_L starts the trailing pulses (40_sequencer.md R75). -/
theorem step_bitL_last (p : s.ph = .bitL) (hr : (s.hostAt 0).rst = 0) (hb : s.bitcnt = 1) :
    step s = .next
      { s.advance with
        sck := 0, shr := shiftIn s.shr (s.dinAt 0), bitcnt := s.bitcnt - 1, plscnt := s.sel, ph := .plsH } :=
  (step_bitL p hr).trans (if_pos hb)

/-- PLS_H raises the clock (40_sequencer.md R76). -/
theorem step_plsH_eq (p : s.ph = .plsH) (hr : (s.hostAt 0).rst = 0) :
    step s = .next { s.advance with sck := 1, ph := .plsL } := step_plsH p hr

/-- PLS_L lowers the clock and counts the pulse (40_sequencer.md R77). -/
theorem step_plsL_eq (p : s.ph = .plsL) (hr : (s.hostAt 0).rst = 0) :
    step s = .next
      { s.advance with sck := 0, plscnt := s.plscnt - 1, ph := if s.plscnt = 1 then .dec else .plsH } :=
  step_plsL p hr

/-! ### The states of a frame -/

/-- `s` with the inputs of its next `n` ticks past and every register as it was. -/
def State.after (s : State) (n : Nat) : State :=
  { s with now := s.now + n, host := s.host.drop n, din := s.din.drop n }

/-- Once `n` ticks' inputs are past, the inputs `k` ticks away are those that were `n + k` away. -/
theorem State.after_hostAt (n k : Nat) : (s.after n).hostAt k = s.hostAt (n + k) := by
  simp [State.hostAt, State.after, List.getD_eq_getElem?_getD, Nat.add_assoc]

/-- Once `n` ticks' samples are past, the DIN level `k` ticks away is the one that was `n + k` away. -/
theorem State.after_dinAt (n k : Nat) : (s.after n).dinAt k = s.dinAt (n + k) := by
  simp [State.dinAt, State.after, List.getD_eq_getElem?_getD, Nat.add_assoc]

/-- SHR after `m` data bits of the frame whose WAIT tick sees DIN low in `s`: bit `i` is sampled `2i` ticks later
(40_sequencer.md R83(b)). -/
def shiftedIn (s : State) : Nat → Sample
  | 0 => s.shr
  | m + 1 => shiftIn (shiftedIn s m) (s.dinAt (2 * m + 2))

/-- Of `m` bits shifted in, the `i`-th stands at place `m - i` (10_state.md R12, 40_sequencer.md R83(b)). -/
theorem shiftedIn_extractLsb' {m i : Nat} (h1 : 1 ≤ i) (hi : i ≤ m) (hm : m ≤ 24) :
    (shiftedIn s m).extractLsb' (m - i) 1 = s.dinAt (2 * i) := by
  induction m with
  | zero => omega
  | succ m ih =>
    rcases Nat.lt_or_ge m i with newest | older
    · obtain rfl : i = m + 1 := by omega
      rw [Nat.sub_self]
      exact shiftIn_newest _ _
    · rw [Nat.succ_sub older, ← ih older (by omega)]
      exact shiftIn_older _ _ _ (by omega)

/-- BIT_H with `m` data bits sampled, `2m + 1` ticks after the WAIT tick in `s` (40_sequencer.md R83(a)). -/
def bitHAt (s : State) (m : Nat) : State :=
  { s.after (2 * m + 1) with
    sck := if m = 0 then s.sck else 0, shr := shiftedIn s m, bitcnt := 24 - BitVec.ofNat 5 m, ph := .bitH }

/-- BIT_L with `m` data bits sampled, `2m + 2` ticks after the WAIT tick in `s` (40_sequencer.md R83(a)). -/
def bitLAt (s : State) (m : Nat) : State :=
  { s.after (2 * m + 2) with sck := 1, shr := shiftedIn s m, bitcnt := 24 - BitVec.ofNat 5 m, ph := .bitL }

/-- PLS_H with `m` trailing pulses emitted, `2m + 49` ticks after the WAIT tick in `s` (40_sequencer.md R83(a)). -/
def plsHAt (s : State) (m : Nat) : State :=
  { s.after (2 * m + 49) with
    sck := 0, shr := shiftedIn s 24, bitcnt := 0, plscnt := s.sel - BitVec.ofNat 2 m, ph := .plsH }

/-- PLS_L with `m` trailing pulses emitted, `2m + 50` ticks after the WAIT tick in `s` (40_sequencer.md R83(a)). -/
def plsLAt (s : State) (m : Nat) : State :=
  { s.after (2 * m + 50) with
    sck := 1, shr := shiftedIn s 24, bitcnt := 0, plscnt := s.sel - BitVec.ofNat 2 m, ph := .plsL }

/-- DEC with `m` trailing pulses emitted, `2m + 49` ticks after the WAIT tick in `s` (40_sequencer.md R83(d)). -/
def decAt (s : State) (m : Nat) : State := { plsHAt s m with ph := .dec }

@[simp] theorem bitHAt_hostAt (m k : Nat) : (bitHAt s m).hostAt k = s.hostAt (2 * m + 1 + k) := State.after_hostAt _ _
@[simp] theorem bitLAt_hostAt (m k : Nat) : (bitLAt s m).hostAt k = s.hostAt (2 * m + 2 + k) := State.after_hostAt _ _
@[simp] theorem bitLAt_dinAt (m k : Nat) : (bitLAt s m).dinAt k = s.dinAt (2 * m + 2 + k) := State.after_dinAt _ _
@[simp] theorem plsHAt_hostAt (m k : Nat) : (plsHAt s m).hostAt k = s.hostAt (2 * m + 49 + k) := State.after_hostAt _ _
@[simp] theorem plsLAt_hostAt (m k : Nat) : (plsLAt s m).hostAt k = s.hostAt (2 * m + 50 + k) := State.after_hostAt _ _

/-! ### One tick from each state of a frame to the next -/

/-- The WAIT tick that sees DIN low starts the frame (40_sequencer.md R73). -/
theorem step_wait_ready (p : s.ph = .wait) (hd : s.dinAt 0 = 0) (hr : (s.hostAt 0).rst = 0) :
    step s = .next (bitHAt s 0) := by
  rw [step_wait p hr, tickWait, State.pinReadDin, if_pos hd]
  simp [bitHAt, State.after, State.advance, shiftedIn]

theorem step_bitHAt {m : Nat} (hr : (s.hostAt (2 * m + 1)).rst = 0) : step (bitHAt s m) = .next (bitLAt s m) := by
  rw [step_bitH_eq rfl (by simpa using hr)]
  simp [bitHAt, bitLAt, State.after, State.advance, Nat.add_assoc]

theorem step_bitLAt {m : Nat} (hm : m < 23) (hr : (s.hostAt (2 * m + 2)).rst = 0) :
    step (bitLAt s m) = .next (bitHAt s (m + 1)) := by
  have more : (bitLAt s m).bitcnt ≠ 1 :=
    mt (counted_eq_one_iff (x := 24) (show m < 24 by omega)).mp (show m + 1 ≠ 24 by omega)
  rw [step_bitL_more rfl (by simpa using hr) more, bitLAt_dinAt]
  simpa [bitHAt, bitLAt, State.after, State.advance, Nat.add_assoc, shiftedIn, Nat.mul_add]
    using counted_sub_one 24 m

theorem step_bitLAt_last (hr : (s.hostAt 48).rst = 0) : step (bitLAt s 23) = .next (plsHAt s 0) := by
  have last : (bitLAt s 23).bitcnt = 1 := rfl
  rw [step_bitL_last rfl (by simpa using hr) last, bitLAt_dinAt]
  simp [plsHAt, bitLAt, State.after, State.advance, Nat.add_assoc, shiftedIn]

theorem step_plsHAt {m : Nat} (hr : (s.hostAt (2 * m + 49)).rst = 0) : step (plsHAt s m) = .next (plsLAt s m) := by
  rw [step_plsH_eq rfl (by simpa using hr)]
  simp [plsHAt, plsLAt, State.after, State.advance, Nat.add_assoc]

theorem step_plsLAt {m : Nat} (hm : m + 1 < pulses s.sel) (hr : (s.hostAt (2 * m + 50)).rst = 0) :
    step (plsLAt s m) = .next (plsHAt s (m + 1)) := by
  have more : (plsLAt s m).plscnt ≠ 1 := mt (counted_eq_one_iff (Nat.lt_of_succ_lt hm)).mp hm.ne
  rw [step_plsL_eq rfl (by simpa using hr), if_neg more]
  simpa [plsHAt, plsLAt, State.after, State.advance, Nat.add_assoc, Nat.mul_add]
    using counted_sub_one s.sel m

theorem step_plsLAt_last {m : Nat} (hm : m + 1 = pulses s.sel) (hr : (s.hostAt (2 * m + 50)).rst = 0) :
    step (plsLAt s m) = .next (decAt s (m + 1)) := by
  have last : (plsLAt s m).plscnt = 1 := (counted_eq_one_iff (Nat.lt_of_succ_le hm.le)).mpr hm
  rw [step_plsL_eq rfl (by simpa using hr), if_pos last]
  simpa [decAt, plsHAt, plsLAt, State.after, State.advance, Nat.add_assoc, Nat.mul_add]
    using counted_sub_one s.sel m

/-! ### Running a frame -/

/-- A run with one more tick at its end. -/
theorem ticks_succ_last {n : Nat} (hn : ticks n s = .next t) (h : step t = .next u) : ticks (n + 1) s = .next u := by
  rw [ticks_add hn, ticks_succ h, ticks_zero]

theorem State.noRst_mono {m n : Nat} (hr : s.NoRst n) (h : m ≤ n) : s.NoRst m :=
  fun j hj => hr j (hj.trans_le h)

section
variable {m : Nat} (p : s.ph = .wait) (hd : s.dinAt 0 = 0)
include p hd

/-- `2m + 1` ticks after the WAIT tick, `m` data bits are sampled (40_sequencer.md R83(a)). -/
theorem ticks_bitHAt (hm : m < 24) (hr : s.NoRst (2 * m + 1)) : ticks (2 * m + 1) s = .next (bitHAt s m) := by
  induction m with
  | zero => exact ticks_succ_last ticks_zero (step_wait_ready p hd (hr 0 (by omega)))
  | succ m ih =>
    have inBitH := ih (by omega) (State.noRst_mono hr (by omega))
    have inBitL := ticks_succ_last inBitH (step_bitHAt (hr _ (by omega)))
    exact ticks_succ_last inBitL (step_bitLAt (by omega) (hr _ (by omega)))

theorem ticks_bitLAt (hm : m < 24) (hr : s.NoRst (2 * m + 2)) : ticks (2 * m + 2) s = .next (bitLAt s m) :=
  ticks_succ_last (ticks_bitHAt p hd hm (State.noRst_mono hr (by omega))) (step_bitHAt (hr _ (by omega)))

/-- `2m + 49` ticks after the WAIT tick, `m` trailing pulses are emitted (40_sequencer.md R83(a)). -/
theorem ticks_plsHAt (hm : m < pulses s.sel) (hr : s.NoRst (2 * m + 49)) :
    ticks (2 * m + 49) s = .next (plsHAt s m) := by
  induction m with
  | zero =>
    have inBitL := ticks_bitLAt p hd (m := 23) (by omega) (State.noRst_mono hr (by omega))
    exact ticks_succ_last inBitL (step_bitLAt_last (hr _ (by omega)))
  | succ m ih =>
    have inPlsH := ih (by omega) (State.noRst_mono hr (by omega))
    have inPlsL := ticks_succ_last inPlsH (step_plsHAt (hr _ (by omega)))
    exact ticks_succ_last inPlsL (step_plsLAt hm (hr _ (by omega)))

theorem ticks_plsLAt (hm : m < pulses s.sel) (hr : s.NoRst (2 * m + 50)) :
    ticks (2 * m + 50) s = .next (plsLAt s m) :=
  ticks_succ_last (ticks_plsHAt p hd hm (State.noRst_mono hr (by omega))) (step_plsHAt (hr _ (by omega)))

/-- The frame of an armed selection ends in DEC (40_sequencer.md R83(d)). -/
theorem ticks_decAt (hs : s.sel ≠ 0) (hr : s.NoRst (2 * pulses s.sel + 49)) :
    ticks (2 * pulses s.sel + 49) s = .next (decAt s (pulses s.sel)) := by
  obtain ⟨m, hm⟩ := Nat.exists_eq_add_of_le' (pulses_bounds hs).1
  rw [hm] at hr ⊢
  have inPlsL := ticks_plsLAt p hd (m := m) (by omega) (State.noRst_mono hr (by omega))
  exact ticks_succ_last inPlsL (step_plsLAt_last hm.symm (hr _ (by omega)))

end

/-- A tick of a frame is one of its five states' (40_sequencer.md R83(a)). -/
theorem frameTick_cases {k j : Nat} (h1 : 1 ≤ j) (hj : j ≤ 49 + 2 * k) :
    (∃ m < 24, j = 2 * m + 1) ∨ (∃ m < 24, j = 2 * m + 2) ∨ (∃ m < k, j = 2 * m + 49) ∨
    (∃ m < k, j = 2 * m + 50) ∨ j = 2 * k + 49 := by
  obtain ⟨m, rfl | rfl⟩ := j.even_or_odd'
  · rcases Nat.lt_or_ge 24 m with pulse | bit
    · exact .inr (.inr (.inr (.inl ⟨m - 25, by omega, by omega⟩)))
    · exact .inr (.inl ⟨m - 1, by omega, by omega⟩)
  · rcases Nat.lt_or_ge m 24 with bit | pulse
    · exact .inl ⟨m, bit, rfl⟩
    · rcases Nat.lt_or_ge (m - 24) k with more | last
      · exact .inr (.inr (.inl ⟨m - 24, more, by omega⟩))
      · exact .inr (.inr (.inr (.inr (by omega))))

/-! ### The phase at each kind of tick (40_sequencer.md R83(a)) -/

theorem framePhase_bitH {k m : Nat} (hm : m < 24) : framePhase k (2 * m + 1) = .bitH := by
  rw [framePhase, if_neg (by omega), if_pos (by omega), if_pos (by omega)]

theorem framePhase_bitL {k m : Nat} (hm : m < 24) : framePhase k (2 * m + 2) = .bitL := by
  rw [framePhase, if_neg (by omega), if_pos (by omega), if_neg (by omega)]

theorem framePhase_plsH {k m : Nat} (hm : m < k) : framePhase k (2 * m + 49) = .plsH := by
  rw [framePhase, if_neg (by omega), if_neg (by omega), if_pos (by omega)]

theorem framePhase_plsL {k m : Nat} : framePhase k (2 * m + 50) = .plsL := by
  rw [framePhase, if_neg (by omega), if_neg (by omega), if_neg (by omega)]

theorem framePhase_dec {k : Nat} : framePhase k (2 * k + 49) = .dec := by
  rw [framePhase, if_pos (by omega)]

/-- Settles O36: each tick of the frame is one of the five kinds, whose state is known whole. -/
theorem frameLemma : Obligations.FrameLemma := by
  rintro s _ rfl hs p hd hr j h1 hj
  have hr' : s.NoRst j := State.noRst_mono hr hj
  rcases frameTick_cases h1 hj with ⟨m, hm, rfl⟩ | ⟨m, hm, rfl⟩ | ⟨m, hm, rfl⟩ | ⟨m, hm, rfl⟩ | rfl
  · refine ⟨_, ticks_bitHAt p hd hm hr', (framePhase_bitH hm).symm, ?_, rfl, rfl, rfl, rfl, rfl, by omega⟩
    simp [bitHAt]
  · refine ⟨_, ticks_bitLAt p hd hm hr', (framePhase_bitL hm).symm, ?_, rfl, rfl, rfl, rfl, rfl, by omega⟩
    simp [bitLAt]
  · refine ⟨_, ticks_plsHAt p hd hm hr', (framePhase_plsH hm).symm, ?_, rfl, rfl, rfl, rfl, rfl, by omega⟩
    simp [plsHAt]
  · refine ⟨_, ticks_plsLAt p hd hm hr', framePhase_plsL.symm, ?_, rfl, rfl, rfl, rfl, rfl, by omega⟩
    simp [plsLAt]
  · refine ⟨_, ticks_decAt p hd hs hr', framePhase_dec.symm, ?_, rfl, rfl, rfl, rfl, rfl, fun _ i h1 h24 => ?_⟩
    · simp [decAt, plsHAt]
    · exact shiftedIn_extractLsb' h1 h24 (by omega)

end Sys2Proof.Machine
end

section
/-! PROOFS. The protocol reader: the sample's decoding, the ready wait as one run, the pulses a run shows on the wire,
and READ as one step (41_protocol_reader.md). -/

namespace Sys2Proof.Machine

variable {s t u : State}

/-! ### The decode -/

/-- The weight of bit 23 in the unsigned value (41_protocol_reader.md R94). -/
theorem toNat_bit23 (v : Sample) : (v.extractLsb' 23 1).toNat = v.toNat / 2 ^ 23 := by
  have bound : v.toNat / 2 ^ 23 < 2 ^ 1 := Nat.div_lt_of_lt_mul v.isLt
  rw [BitVec.extractLsb'_toNat, Nat.shiftRight_eq_div_pow, Nat.mod_eq_of_lt bound]

/-- A signed value is the unsigned one less `2^24` times bit 23 (41_protocol_reader.md R94). -/
theorem toInt_eq_toNat_sub_bit23 (v : Sample) : v.toInt = v.toNat - 2 ^ 24 * (v.extractLsb' 23 1).toNat := by
  rw [BitVec.toInt_eq_toNat_cond, toNat_bit23]
  have := v.isLt
  split <;> omega

/-- Settles O35: the source's decoding is the signed value; range and uniqueness are the library's. -/
theorem decodeIsTwosComplement : Obligations.DecodeIsTwosComplement := by
  intro v
  refine ⟨decode24_eq_toInt v, ?_, ?_, ?_, sext32_toInt v, fun w hw => ?_⟩
  · rw [decode24_eq_toInt, toInt_eq_toNat_sub_bit23]
  · rw [decode24_eq_toInt]
    exact BitVec.le_toInt v
  · rw [decode24_eq_toInt]
    exact Int.le_sub_one_of_lt BitVec.toInt_lt
  · exact BitVec.eq_of_toInt_eq (hw.trans (sext32_toInt v).symm)

/-! ### The ready wait -/

/-- WAIT after `m` high samples (40_sequencer.md R73). -/
def waitAt (s : State) (m : Nat) : State := { s.after m with pollcnt := s.pollcnt + m }

@[simp] theorem waitAt_ph (m : Nat) : (waitAt s m).ph = s.ph := rfl
@[simp] theorem waitAt_sck (m : Nat) : (waitAt s m).sck = s.sck := rfl
@[simp] theorem waitAt_sel (m : Nat) : (waitAt s m).sel = s.sel := rfl
@[simp] theorem waitAt_shr (m : Nat) : (waitAt s m).shr = s.shr := rfl
@[simp] theorem waitAt_bitcnt (m : Nat) : (waitAt s m).bitcnt = s.bitcnt := rfl
@[simp] theorem waitAt_plscnt (m : Nat) : (waitAt s m).plscnt = s.plscnt := rfl
@[simp] theorem waitAt_dlycnt (m : Nat) : (waitAt s m).dlycnt = s.dlycnt := rfl
@[simp] theorem waitAt_params (m : Nat) : (waitAt s m).params = s.params := rfl
@[simp] theorem waitAt_hostAt (m k : Nat) : (waitAt s m).hostAt k = s.hostAt (m + k) := State.after_hostAt _ _
@[simp] theorem waitAt_dinAt (m k : Nat) : (waitAt s m).dinAt k = s.dinAt (m + k) := State.after_dinAt _ _

theorem waitAt_noRst {m n : Nat} (hr : s.NoRst (m + n)) : (waitAt s m).NoRst n :=
  fun j hj => by rw [waitAt_hostAt]; exact hr _ (Nat.add_lt_add_left hj m)

/-- The next `m` ticks are WAIT ticks that each take a high sample the limit allows (41_protocol_reader.md R96). -/
structure State.Waits (s : State) (m : Nat) : Prop where
  waiting : s.ph = .wait
  allowed : s.params.Allows (s.pollcnt + m)
  high : s.DinHigh m
  noRst : s.NoRst m

theorem State.Waits.of_succ {m : Nat} (h : s.Waits (m + 1)) : s.Waits m where
  waiting := h.waiting
  allowed n hn := (Nat.lt_succ_self _).trans (h.allowed n hn)
  high j hj := h.high j (Nat.lt_succ_of_lt hj)
  noRst := State.noRst_mono h.noRst (Nat.le_succ m)

/-- The limit is not reached while it allows one more high sample (41_protocol_reader.md R96). -/
theorem pollLimitReached_of_allows (h : s.params.Allows (s.pollcnt + 1)) : s.pollLimitReached = false := by
  rw [← Bool.not_eq_true, pollLimitReached_iff]
  rintro ⟨n, hn, hle⟩
  exact absurd (h n hn) (Nat.not_lt.mpr hle)

/-- A high sample in WAIT times out at the limit and is counted before it (40_sequencer.md R73). -/
theorem step_wait_high (p : s.ph = .wait) (hd : s.dinAt 0 = 1) (hr : (s.hostAt 0).rst = 0) :
    step s = .next
      (if s.pollLimitReached then s.advance.raise .timeout else { s.advance with pollcnt := s.pollcnt + 1 }) := by
  rw [step_wait p hr, tickWait, if_neg (by simp [State.pinReadDin, hd]), apply_ite Host.Outcome.next]
  rfl

theorem step_waitAt {m : Nat} (h : s.Waits (m + 1)) : step (waitAt s m) = .next (waitAt s (m + 1)) := by
  have more : (waitAt s m).pollLimitReached = false := pollLimitReached_of_allows h.allowed
  rw [step_wait_high (s := waitAt s m) h.waiting (by simpa using h.high m) (by simpa using h.noRst m), more]
  simp [waitAt, State.after, State.advance, Nat.add_assoc]

theorem step_waitAt_timeout {m : Nat} (p : s.ph = .wait) (hd : s.dinAt m = 1) (hr : (s.hostAt m).rst = 0)
    (hl : s.params.pollLimit = some (s.pollcnt + m + 1)) :
    step (waitAt s m) = .next ((waitAt s m).advance.raise .timeout) := by
  have last : (waitAt s m).pollLimitReached = true := pollLimitReached_iff.mpr ⟨_, hl, le_rfl⟩
  rw [step_wait_high (s := waitAt s m) p (by simpa using hd) (by simpa using hr), if_pos last]

/-- While DIN is high and the limit allows it the block waits (40_sequencer.md R73). -/
theorem ticks_waitAt {m : Nat} (h : s.Waits m) : ticks m s = .next (waitAt s m) := by
  induction m with
  | zero => rfl
  | succ m ih => exact ticks_succ_last (ih h.of_succ) (step_waitAt h)

/-! ### The edges of a run -/

/-- A level is not high and low at once, so a kept level is no edge. -/
theorem bit_not_both {b : Bit} : ¬ (b = 1 ∧ b = 0) := by
  revert b; decide

/-- A rising edge takes a line from 0 to 1, a falling one from 1 to 0 (20_memory.md R31). -/
theorem bit_edge_balance (b c : Bit) :
    (if b = 0 ∧ c = 1 then 1 else 0) + b.toNat = (if b = 1 ∧ c = 0 then 1 else 0) + c.toNat := by
  revert b c; decide

/-- The falling edges that `n` ticks from `s` show on the clock line. -/
def sckFalls (n : Nat) (s : State) : Nat := fallingEdges s.sck (sckTrace n s)

/-- The rising edges that `n` ticks from `s` show on the clock line. -/
def sckRises (n : Nat) (s : State) : Nat := risingEdges s.sck (sckTrace n s)

@[simp] theorem sckFalls_zero : sckFalls 0 s = 0 := rfl
@[simp] theorem sckRises_zero : sckRises 0 s = 0 := rfl

theorem sckFalls_succ {n : Nat} (h : step s = .next t) :
    sckFalls (n + 1) s = (if s.sck = 1 ∧ t.sck = 0 then 1 else 0) + sckFalls n t := by
  rw [sckFalls, sckTrace_succ h, fallingEdges, sckFalls]

theorem sckRises_succ {n : Nat} (h : step s = .next t) :
    sckRises (n + 1) s = (if s.sck = 0 ∧ t.sck = 1 then 1 else 0) + sckRises n t := by
  rw [sckRises, sckTrace_succ h, risingEdges, sckRises]

/-- A run of at least one tick has a first one. -/
theorem exists_step_of_ticks_succ {n : Nat} (h : ticks (n + 1) s = .next u) :
    ∃ t, step s = .next t ∧ ticks n t = .next u := by
  rw [ticks] at h
  split at h
  · exact ⟨_, ‹_›, h⟩
  · cases h
  · cases h

/-- The falling edges of a run of `m + n` ticks are those of its two parts. -/
theorem sckFalls_add {m n : Nat} (h : ticks m s = .next t) : sckFalls (m + n) s = sckFalls m s + sckFalls n t := by
  induction m generalizing s with
  | zero => obtain rfl := Host.Outcome.next.inj h; simp
  | succ m ih =>
    obtain ⟨x, hx, hm⟩ := exists_step_of_ticks_succ h
    rw [Nat.succ_add, sckFalls_succ hx, sckFalls_succ hx, ih hm, Nat.add_assoc]

/-- The last tick of a run adds a falling edge exactly if the clock falls in it. -/
theorem sckFalls_succ_last {n : Nat} (hn : ticks n s = .next t) (hu : ticks (n + 1) s = .next u) :
    sckFalls (n + 1) s = sckFalls n s + if t.sck = 1 ∧ u.sck = 0 then 1 else 0 := by
  rw [ticks_add hn] at hu
  obtain ⟨x, hx, hxu⟩ := exists_step_of_ticks_succ hu
  obtain rfl := Host.Outcome.next.inj hxu
  rw [sckFalls_add hn, sckFalls_succ hx, sckFalls_zero, Nat.add_zero]

/-- On one line rising and falling edges alternate, so their numbers differ by its levels before and after the run. -/
theorem sckRises_add_level {n : Nat} (h : ticks n s = .next t) :
    sckRises n s + s.sck.toNat = sckFalls n s + t.sck.toNat := by
  induction n generalizing s with
  | zero => obtain rfl := Host.Outcome.next.inj h; rfl
  | succ n ih =>
    obtain ⟨x, hx, hn⟩ := exists_step_of_ticks_succ h
    have rest := ih hn
    have first := bit_edge_balance s.sck x.sck
    rw [sckRises_succ hx, sckFalls_succ hx]
    omega

/-- The ready wait shows no edge (40_sequencer.md R73). -/
theorem sckFalls_wait {m : Nat} (h : s.Waits m) : sckFalls m s = 0 := by
  induction m with
  | zero => rfl
  | succ m ih =>
    rw [sckFalls_succ_last (ticks_waitAt h.of_succ) (ticks_waitAt h), ih h.of_succ, waitAt_sck, waitAt_sck,
      if_neg bit_not_both]

/-- `j` ticks after the WAIT tick a frame has shown a falling edge for each whole pulse (40_sequencer.md R83(c)). -/
theorem sckFalls_frame {j : Nat} (hs : s.sel ≠ 0) (p : s.ph = .wait) (hd : s.dinAt 0 = 0)
    (hr : s.NoRst (49 + 2 * pulses s.sel)) (h1 : 1 ≤ j) (hj : j ≤ 49 + 2 * pulses s.sel) :
    sckFalls j s = (j - 1) / 2 := by
  have frame := frameLemma s _ rfl hs p hd hr
  induction j, h1 using Nat.le_induction with
  | base =>
    obtain ⟨u, hu, -, level, -⟩ := frame 1 le_rfl hj
    rw [sckFalls_succ_last ticks_zero hu, level, if_pos rfl, if_neg bit_not_both, sckFalls_zero]
  | succ j h1 ih =>
    obtain ⟨t, ht, -, before, -⟩ := frame j h1 (by omega)
    obtain ⟨u, hu, -, after, -⟩ := frame (j + 1) (by omega) hj
    have falls := sckFalls_succ_last ht hu
    rcases Nat.mod_two_eq_zero_or_one j with even | odd
    · rw [if_neg (by omega), if_pos even] at before
      rw [if_neg (by omega), if_neg (by omega)] at after
      rw [falls, ih (by omega), before, after, if_pos ⟨rfl, rfl⟩]
      omega
    · rw [if_neg (by omega), if_pos (by omega)] at after
      rw [falls, ih (by omega), after, if_neg (by simp)]
      omega

/-! ### The ready wait and the frame as one run -/

@[simp] theorem decAt_sck (m : Nat) : (decAt s m).sck = 0 := rfl
@[simp] theorem decAt_shr (m : Nat) : (decAt s m).shr = shiftedIn s 24 := rfl
@[simp] theorem decAt_sel (m : Nat) : (decAt s m).sel = s.sel := rfl
@[simp] theorem decAt_dlycnt (m : Nat) : (decAt s m).dlycnt = s.dlycnt := rfl
@[simp] theorem decAt_params (m : Nat) : (decAt s m).params = s.params := rfl
@[simp] theorem decAt_hostAt (m k : Nat) : (decAt s m).hostAt k = s.hostAt (2 * m + 49 + k) := State.after_hostAt _ _

/-- After the last trailing pulse none is left to emit (40_sequencer.md R77). -/
theorem decAt_plscnt : (decAt s (pulses s.sel)).plscnt = 0 := by
  simp [decAt, plsHAt, pulses]

section
variable {p : Nat} (hw : s.Waits p) (hs : s.sel ≠ 0) (hd : s.dinAt p = 0) (hr : s.NoRst (p + 2 * pulses s.sel + 49))
include hw hs hd hr

/-- After a ready wait of `p` high samples the frame runs to DEC (40_sequencer.md R83). -/
theorem ticks_wait_frame : ticks (p + 2 * pulses s.sel + 49) s = .next (decAt (waitAt s p) (pulses s.sel)) := by
  rw [Nat.add_assoc, ticks_add (ticks_waitAt hw)]
  exact ticks_decAt (s := waitAt s p) hw.waiting (by simpa using hd) hs
    (waitAt_noRst (by simpa [Nat.add_assoc] using hr))

/-- The ready wait and the frame show one falling edge a pulse (40_sequencer.md R83(c)). -/
theorem sckFalls_wait_frame : sckFalls (p + 2 * pulses s.sel + 49) s = 24 + pulses s.sel := by
  have frame := sckFalls_frame (s := waitAt s p) (j := 2 * pulses s.sel + 49) hs hw.waiting (by simpa using hd)
    (waitAt_noRst (State.noRst_mono hr (by rw [waitAt_sel]; omega))) (by omega) (by rw [waitAt_sel]; omega)
  rw [Nat.add_assoc, sckFalls_add (ticks_waitAt hw), sckFalls_wait hw, frame]
  omega

end

/-! ### READ as one step -/

/-- DEC responds to READ with the decoded sample (40_sequencer.md R78). -/
theorem step_decAt_of_read {m : Nat} (ho : s.op = opRead) (hr : (s.hostAt (2 * m + 49)).rst = 0) :
    step (decAt s m) = .next ((decAt s m).advance.finish (sext32 (shiftedIn s 24))) := by
  rw [step_dec rfl (by simpa using hr)]
  exact if_pos ho

/-- READ's end: `p` high samples and the frame are past, and DEC has responded (41_protocol_reader.md R96). -/
def readDone (s : State) (p : Nat) : State :=
  (decAt (waitAt s p) (pulses s.sel)).advance.finish (sext32 (shiftedIn (waitAt s p) 24))

/-- READ's answer holds the bits sampled at every second tick after the low sample (41_protocol_reader.md R96). -/
theorem readDone_shr {p i : Nat} (h1 : 1 ≤ i) (h24 : i ≤ 24) :
    (readDone s p).shr.extractLsb' (24 - i) 1 = s.dinAt (p + 2 * i) :=
  (shiftedIn_extractLsb' (s := waitAt s p) h1 h24 le_rfl).trans (waitAt_dinAt _ _)

/-- READ keeps the selection, the delay counter and the parameters (41_protocol_reader.md R96). -/
theorem readDone_frame {p : Nat} :
    (readDone s p).sel = s.sel ∧ (readDone s p).dlycnt = s.dlycnt ∧ (readDone s p).params = s.params := by
  simp [readDone]

section
variable {p : Nat} (ho : s.op = opRead) (hw : s.Waits p) (hs : s.sel ≠ 0) (hd : s.dinAt p = 0)
  (hr : s.NoRst (p + 2 * pulses s.sel + 50))
include ho hw hs hd hr

theorem ticks_readDone : ticks (p + 2 * pulses s.sel + 50) s = .next (readDone s p) :=
  ticks_succ_last (ticks_wait_frame hw hs hd (State.noRst_mono hr (Nat.le_succ _)))
    (step_decAt_of_read ho (by simpa [Nat.add_assoc] using hr (p + 2 * pulses s.sel + 49) (Nat.lt_succ_self _)))

/-- READ shows one falling edge a pulse (41_protocol_reader.md R96). -/
theorem sckFalls_readDone : sckFalls (p + 2 * pulses s.sel + 50) s = 24 + pulses s.sel := by
  have hr' := State.noRst_mono hr (Nat.le_succ _)
  rw [sckFalls_succ_last (ticks_wait_frame hw hs hd hr') (ticks_readDone ho hw hs hd hr),
    sckFalls_wait_frame hw hs hd hr', decAt_sck]
  rfl

/-- READ shows one rising edge a pulse, less the first if the clock was high already (70_reset_and_hazards.md R148). -/
theorem sckRises_readDone :
    sckRises (p + 2 * pulses s.sel + 50) s = if s.sck = 0 then 24 + pulses s.sel else 23 + pulses s.sel := by
  have balance : sckRises (p + 2 * pulses s.sel + 50) s + s.sck.toNat = 24 + pulses s.sel := by
    rw [sckRises_add_level (ticks_readDone ho hw hs hd hr), sckFalls_readDone ho hw hs hd hr]
    rfl
  split
  case isTrue low => simpa [low] using balance
  case isFalse high => simp [bit_eq_one high] at balance; omega

end

/-- The sample at the limit times out the ready wait (41_protocol_reader.md R96). -/
theorem ticks_timeout {m : Nat} (hw : s.Waits m) (hd : s.dinAt m = 1) (hr : (s.hostAt m).rst = 0)
    (hl : s.params.pollLimit = some (s.pollcnt + m + 1)) :
    ticks (m + 1) s = .next ((waitAt s m).advance.raise .timeout) :=
  ticks_succ_last (ticks_waitAt hw) (step_waitAt_timeout hw.waiting hd hr hl)

/-- The state that READ's accept tick leaves (41_protocol_reader.md R90). -/
def readAccepted (s : State) : State := (s.dropResponse.own opRead).beginWait

theorem exec_read_eq : exec .read s = .next (readAccepted s) := rfl

/-- READ's ready wait begins with no sample counted (40_sequencer.md R71). -/
theorem readAccepted_waits {m : Nat} (hl : s.params.Allows m) (hd : (readAccepted s).DinHigh m)
    (hr : (readAccepted s).NoRst m) : (readAccepted s).Waits m :=
  ⟨rfl, by simpa [readAccepted] using hl, hd, hr⟩

/-- Settles O38: from the state that the accept tick leaves, the wait and the frame run to `readDone`, or the
wait runs to the limit; both end states are known whole. -/
theorem readAsOneStep : Obligations.ReadAsOneStep := by
  intro s
  refine ⟨readAccepted s, exec_read_eq, rfl, ?ok, ?timeout⟩
  case ok =>
    rintro p _ rfl hs hl hh hd hr
    have hw := readAccepted_waits hl hh (State.noRst_mono hr (by omega))
    obtain ⟨sel, dlycnt, params⟩ := readDone_frame (s := readAccepted s) (p := p)
    have falls := sckFalls_readDone rfl hw hs hd hr
    have rises := sckRises_readDone rfl hw hs hd hr
    exact ⟨_, ticks_readDone rfl hw hs hd hr, fun i => readDone_shr, rfl, rfl, rfl, rfl, Nat.zero_add p, rfl,
      decAt_plscnt, rfl, sel, rfl, dlycnt, params, falls, rises⟩
  case timeout =>
    intro n h1 hl hh hr
    obtain ⟨m, rfl⟩ := Nat.exists_eq_add_of_le' h1
    have allowed : s.params.Allows m := by simp [Params.Allows, hl]
    have hw := readAccepted_waits allowed (fun j hj => hh j (by omega)) (State.noRst_mono hr (by omega))
    have done := ticks_timeout hw (hh m (by omega)) (hr m (by omega)) (by simpa [readAccepted] using hl)
    refine ⟨_, done, rfl, rfl, rfl, rfl, rfl, Nat.zero_add m, ?_⟩
    simp [readAccepted]

end Sys2Proof.Machine
end

section
/-! PROOFS. The gain selector: GETGAIN, an unsupported gain, the settle delay as one run, and SETGAIN with a supported
gain as one step (42_gain_select.md). -/

namespace Sys2Proof.Machine

variable {s t u : State} {g : Nat} {x : BitVec 2}

/-! ### The commands that end in their accept tick -/

/-- Settles O16: no selection is listed for the gain, so its accept tick raises InvalidGain. -/
theorem unsupportedGainAnswersInvalidGain : Obligations.UnsupportedGainAnswersInvalidGain :=
  fun _ _ p h128 h64 h32 => exec_setgain_of_unsupported p (selOf_eq_none.mpr ⟨h128, h64, h32⟩)

/-- GETGAIN answers the gain of the armed selection (42_gain_select.md R103). -/
theorem exec_getgain_of_armed (h : gainOf s.sel = some g) :
    exec .getgain s = .next { s with rspValid := 1, rspSt := 0, rspData := zext32 g } := by
  rw [exec, execGetgain, h]
  rfl

/-- Settles O17: the rows of `gainOf`, and its refusal where no selection is armed. -/
theorem getgainAnswersTheArmedGain : Obligations.GetgainAnswersTheArmedGain := by
  refine ⟨rfl, fun s => ⟨fun h => ?_, fun h => ?_, fun h => ?_, exec_getgain_of_unarmed⟩⟩
  · exact exec_getgain_of_armed (g := 128) (gainOf_eq_some.mpr (.inl ⟨rfl, h⟩))
  · exact exec_getgain_of_armed (g := 32) (gainOf_eq_some.mpr (.inr (.inl ⟨rfl, h⟩)))
  · exact exec_getgain_of_armed (g := 64) (gainOf_eq_some.mpr (.inr (.inr ⟨rfl, h⟩)))

/-! ### The settle delay -/

/-- A last tick that keeps the clock's level adds no edge. -/
theorem sckFalls_succ_of_level {n : Nat} (hn : ticks n s = .next t) (hu : ticks (n + 1) s = .next u)
    (level : u.sck = t.sck) : sckFalls (n + 1) s = sckFalls n s := by
  rw [sckFalls_succ_last hn hu, level, if_neg bit_not_both, Nat.add_zero]

/-- Before the last tick of the delay SETTLE counts it down (40_sequencer.md R79). -/
theorem step_settle_more (p : s.ph = .settle) (hr : (s.hostAt 0).rst = 0) (hd : 1 < s.dlycnt) :
    step s = .next s.advance.countDelay :=
  (step_settle p hr).trans (if_neg hd.not_ge)

/-- SETTLE's last tick responds OK (40_sequencer.md R79). -/
theorem step_settle_last (p : s.ph = .settle) (hr : (s.hostAt 0).rst = 0) (hd : s.dlycnt ≤ 1) :
    step s = .next (s.advance.finish 0) :=
  (step_settle p hr).trans (if_pos hd)

/-- SETTLE with `m` ticks of the delay past (40_sequencer.md R79). -/
def settleAt (s : State) (m : Nat) : State := { s.after m with dlycnt := s.dlycnt - m }

@[simp] theorem settleAt_hostAt (m k : Nat) : (settleAt s m).hostAt k = s.hostAt (m + k) := State.after_hostAt _ _

/-- The end of the settle delay: all of its ticks are past, and the command has responded OK (40_sequencer.md R79). -/
def settleDone (s : State) : State := (settleAt s (s.dlycnt - 1)).advance.finish 0

@[simp] theorem settleDone_sck : (settleDone s).sck = s.sck := rfl

/-- The delay is counted down to 1 and stays there (40_sequencer.md R79). -/
theorem settleDone_dlycnt (h : 1 ≤ s.dlycnt) : (settleDone s).dlycnt = 1 := Nat.sub_sub_self h

section
variable (p : s.ph = .settle)
include p

theorem step_settleAt {m : Nat} (hm : m + 1 < s.dlycnt) (hr : (s.hostAt m).rst = 0) :
    step (settleAt s m) = .next (settleAt s (m + 1)) := by
  have more : 1 < (settleAt s m).dlycnt := Nat.lt_sub_of_add_lt (by omega)
  rw [step_settle_more (s := settleAt s m) p (by simpa using hr) more]
  simp [settleAt, State.after, State.advance, State.countDelay, Nat.add_assoc, Nat.sub_sub]

theorem step_settleAt_last (hr : (s.hostAt (s.dlycnt - 1)).rst = 0) :
    step (settleAt s (s.dlycnt - 1)) = .next (settleDone s) :=
  step_settle_last p (by simpa using hr) (show s.dlycnt - (s.dlycnt - 1) ≤ 1 by omega)

/-- During the delay nothing but the counter changes (40_sequencer.md R79). -/
theorem ticks_settleAt {m : Nat} (hm : m < s.dlycnt) (hr : s.NoRst m) : ticks m s = .next (settleAt s m) := by
  induction m with
  | zero => rfl
  | succ m ih =>
    exact ticks_succ_last (ih (by omega) (State.noRst_mono hr (by omega))) (step_settleAt p hm (hr m (by omega)))

/-- The delay shows no edge (40_sequencer.md R79). -/
theorem sckFalls_settle {m : Nat} (hm : m < s.dlycnt) (hr : s.NoRst m) : sckFalls m s = 0 := by
  induction m with
  | zero => rfl
  | succ m ih =>
    have hr' := State.noRst_mono hr (Nat.le_succ m)
    have hm' := Nat.lt_of_succ_lt hm
    exact (sckFalls_succ_of_level (ticks_settleAt p hm' hr') (ticks_settleAt p hm hr) rfl).trans (ih hm' hr')

section
variable {n : Nat} (hn : s.dlycnt = n) (h1 : 1 ≤ n) (hr : s.NoRst n)
include hn h1 hr

/-- The delay takes as many ticks as its counter holds, the last of which responds (40_sequencer.md R79). -/
theorem ticks_settleDone : ticks n s = .next (settleDone s) := by
  obtain ⟨m, rfl⟩ := Nat.exists_eq_add_of_le' h1
  have last : step (settleAt s m) = .next (settleDone s) := by
    simpa [hn] using step_settleAt_last p (by simpa [hn] using hr m (Nat.lt_succ_self m))
  exact ticks_succ_last (ticks_settleAt p (by omega) (State.noRst_mono hr (Nat.le_succ m))) last

/-- The tick that responds shows no edge either (40_sequencer.md R79). -/
theorem sckFalls_settleDone : sckFalls n s = 0 := by
  have done := ticks_settleDone p hn h1 hr
  obtain ⟨m, rfl⟩ := Nat.exists_eq_add_of_le' h1
  have hr' := State.noRst_mono hr (Nat.le_succ m)
  have hm : m < s.dlycnt := by omega
  exact (sckFalls_succ_of_level (ticks_settleAt p hm hr') done rfl).trans (sckFalls_settle p hm hr')

end

end

/-! ### SETGAIN with a supported gain as one step -/

/-- SETGAIN's word is `0x2000 + g` (42_gain_select.md R100). -/
theorem encode_setgain (h : g < 4096) : encode (.setgain g) = BitVec.ofNat 16 (0x2000 + g) := by
  apply BitVec.eq_of_toNat_eq
  rw [Laws.CommandFields.encode_setgain_toNat h, BitVec.toNat_ofNat]
  omega

/-- The state that SETGAIN's accept tick leaves when it arms `x` (42_gain_select.md R100). -/
def setgainAccepted (s : State) (x : BitVec 2) : State :=
  (({ s.dropResponse with sel := x }.pinWriteSck 0).own opSetgain).beginWait

theorem exec_setgain_of_supported (h : selOf g = some x) : exec (.setgain g) s = .next (setgainAccepted s x) := by
  rw [exec, execSetgain, h]
  rfl

/-- SETGAIN's ready wait begins with no sample counted (40_sequencer.md R71). -/
theorem setgainAccepted_waits {m : Nat} (hl : s.params.Allows m) (hd : (setgainAccepted s x).DinHigh m)
    (hr : (setgainAccepted s x).NoRst m) : (setgainAccepted s x).Waits m :=
  ⟨rfl, by simpa [setgainAccepted] using hl, hd, hr⟩

/-- The settle delay's first state, after `p` high samples and the throwaway frame (42_gain_select.md R100). -/
def frameSettling (s : State) (p : Nat) : State := (decAt (waitAt s p) (pulses s.sel)).advance.beginSettle

@[simp] theorem frameSettling_sck (p : Nat) : (frameSettling s p).sck = 0 := rfl
@[simp] theorem frameSettling_dlycnt (p : Nat) : (frameSettling s p).dlycnt = s.params.nSettle := rfl

/-- The throwaway frame's bits stay in SHR (42_gain_select.md R100). -/
theorem frameSettling_shr {p i : Nat} (h1 : 1 ≤ i) (h24 : i ≤ 24) :
    (frameSettling s p).shr.extractLsb' (24 - i) 1 = s.dinAt (p + 2 * i) :=
  (shiftedIn_extractLsb' (s := waitAt s p) h1 h24 le_rfl).trans (waitAt_dinAt _ _)

theorem frameSettling_noRst {p n : Nat} (hr : s.NoRst (p + 2 * pulses s.sel + 50 + n)) :
    (frameSettling s p).NoRst n := by
  intro j hj
  have past : (frameSettling s p).hostAt j = s.hostAt (p + 2 * pulses s.sel + 50 + j) := by
    simp only [frameSettling, State.beginSettle_hostAt, State.advance_hostAt, decAt_hostAt, waitAt_hostAt]
    congr 1
    omega
  rw [past]
  exact hr _ (Nat.add_lt_add_left hj _)

/-- DEC starts the settle delay for SETGAIN (40_sequencer.md R78). -/
theorem step_decAt_of_setgain {m : Nat} (ho : s.op = opSetgain) (hr : (s.hostAt (2 * m + 49)).rst = 0) :
    step (decAt s m) = .next (decAt s m).advance.beginSettle := by
  rw [step_dec rfl (by simpa using hr), tickDec, if_neg (ho ▸ (by decide : opSetgain ≠ opRead))]
  exact if_pos ho

section
variable {p : Nat} (ho : s.op = opSetgain) (hw : s.Waits p) (hs : s.sel ≠ 0) (hd : s.dinAt p = 0)
include ho hw hs hd

/-- After the ready wait and the throwaway frame the settle delay begins (42_gain_select.md R100). -/
theorem ticks_frameSettling (hr : s.NoRst (p + 2 * pulses s.sel + 50)) :
    ticks (p + 2 * pulses s.sel + 50) s = .next (frameSettling s p) :=
  ticks_succ_last (ticks_wait_frame hw hs hd (State.noRst_mono hr (Nat.le_succ _)))
    (step_decAt_of_setgain ho (by simpa [Nat.add_assoc] using hr (p + 2 * pulses s.sel + 49) (Nat.lt_succ_self _)))

theorem sckFalls_frameSettling (hr : s.NoRst (p + 2 * pulses s.sel + 50)) :
    sckFalls (p + 2 * pulses s.sel + 50) s = 24 + pulses s.sel := by
  have hr' := State.noRst_mono hr (Nat.le_succ _)
  rw [sckFalls_succ_of_level (ticks_wait_frame hw hs hd hr') (ticks_frameSettling ho hw hs hd hr) rfl,
    sckFalls_wait_frame hw hs hd hr']

/-- Each tick of the settle delay is in SETTLE (42_gain_select.md R100). -/
theorem ticks_setgain_settling {m : Nat} (hm : m < s.params.nSettle)
    (hr : s.NoRst (p + 2 * pulses s.sel + 50 + m)) :
    ticks (p + 2 * pulses s.sel + 50 + m) s = .next (settleAt (frameSettling s p) m) := by
  rw [ticks_add (ticks_frameSettling ho hw hs hd (State.noRst_mono hr (Nat.le_add_right _ m)))]
  exact ticks_settleAt rfl hm (frameSettling_noRst hr)

section
variable (h1 : 1 ≤ s.params.nSettle) (hr : s.NoRst (p + 2 * pulses s.sel + 50 + s.params.nSettle))
include h1 hr

/-- SETGAIN responds at the end of its settle delay (42_gain_select.md R100). -/
theorem ticks_setgainDone :
    ticks (p + 2 * pulses s.sel + 50 + s.params.nSettle) s = .next (settleDone (frameSettling s p)) := by
  rw [ticks_add (ticks_frameSettling ho hw hs hd (State.noRst_mono hr (Nat.le_add_right _ _)))]
  exact ticks_settleDone rfl (frameSettling_dlycnt p) h1 (frameSettling_noRst hr)

/-- From a low clock SETGAIN shows the throwaway frame's pulses and no other (42_gain_select.md R100). -/
theorem sckRises_setgainDone (low : s.sck = 0) :
    sckRises (p + 2 * pulses s.sel + 50 + s.params.nSettle) s = 24 + pulses s.sel := by
  have hr' := State.noRst_mono hr (Nat.le_add_right _ s.params.nSettle)
  have falls : sckFalls (p + 2 * pulses s.sel + 50 + s.params.nSettle) s = 24 + pulses s.sel := by
    rw [sckFalls_add (ticks_frameSettling ho hw hs hd hr'), sckFalls_frameSettling ho hw hs hd hr',
      sckFalls_settleDone rfl (frameSettling_dlycnt p) h1 (frameSettling_noRst hr), Nat.add_zero]
  have balance := sckRises_add_level (ticks_setgainDone ho hw hs hd h1 hr)
  simpa [low, falls] using balance

end

end

/-- Settles O41: from the state that the accept tick leaves, the wait and the frame run to `frameSettling`, and the
settle delay from there to `settleDone`; both states are known whole. -/
theorem setgainAsOneStep : Obligations.SetgainAsOneStep := by
  intro s g x hg
  have hx : selOf g = some x := selOf_eq_some.mpr hg
  refine ⟨encode_setgain (by omega), setgainAccepted s x, exec_setgain_of_supported hx,
    rfl, rfl, rfl, rfl, rfl, rfl, ?_⟩
  rintro p _ rfl h1 hl hh hd hr
  have hs : (setgainAccepted s x).sel ≠ 0 := selOf_ne_zero hx
  have hw := setgainAccepted_waits hl hh (State.noRst_mono hr (by omega))
  have rises := sckRises_setgainDone rfl hw hs hd h1 hr rfl
  refine ⟨_, ticks_setgainDone rfl hw hs hd h1 hr, rfl, rfl, rfl, rfl, rfl, rfl, rfl, Nat.zero_add p, rfl,
    decAt_plscnt, settleDone_dlycnt h1, rfl, fun i => frameSettling_shr, rises, fun j hj hlt => ?_⟩
  obtain ⟨m, rfl⟩ := Nat.exists_eq_add_of_le hj
  have hm : m < s.params.nSettle := Nat.lt_of_add_lt_add_left hlt
  exact ⟨_, ticks_setgain_settling rfl hw hs hd hm (State.noRst_mono hr hlt.le), rfl, rfl⟩

end Sys2Proof.Machine
end

section
/-! PROOFS. The Power Controller: the power-down hold as one run, the quiet idle ticks, PWRDN and PWRUP as one step
each (43_power.md). -/

namespace Sys2Proof.Machine

variable {s : State} {m : Nat}

/-! ### The power-down hold

`settleAt` is a delay with `m` of its ticks past, and `settleDone` its end with the response: PD_HOLD counts its delay
as SETTLE does, and PWRDN's hold ends as SETTLE does (40_sequencer.md R79, R81). -/

/-- The state in which the hold starts: PD_RISE has raised the clock (40_sequencer.md R80). -/
def holdStarted (s : State) : State := (s.advance.pinWriteSck 1).beginHold

@[simp] theorem holdStarted_dlycnt : (holdStarted s).dlycnt = s.params.nPdhold := rfl

@[simp] theorem holdStarted_hostAt (k : Nat) : (holdStarted s).hostAt k = s.hostAt (k + 1) := State.advance_hostAt _ k

theorem holdStarted_noRst (hr : s.NoRst (m + 1)) : (holdStarted s).NoRst m :=
  fun j hj => by rw [holdStarted_hostAt]; exact hr _ (Nat.succ_lt_succ hj)

/-- PD_RISE raises the clock and starts the hold (40_sequencer.md R80). -/
theorem step_pdRise_eq (p : s.ph = .pdRise) (hr : (s.hostAt 0).rst = 0) : step s = .next (holdStarted s) :=
  step_pdRise p hr

/-- Before the last tick of the hold PD_HOLD counts it down, whoever owns it (40_sequencer.md R81). -/
theorem step_pdHold_more (p : s.ph = .pdHold) (hr : (s.hostAt 0).rst = 0) (hd : 1 < s.dlycnt) :
    step s = .next s.advance.countDelay :=
  (step_pdHold p hr).trans (if_neg hd.not_ge)

/-- PD_HOLD's last tick responds OK to PWRDN (40_sequencer.md R81). -/
theorem step_pdHold_last_of_pwrdn (p : s.ph = .pdHold) (hr : (s.hostAt 0).rst = 0) (hd : s.dlycnt ≤ 1)
    (ho : s.op = opPwrdn) : step s = .next (s.advance.finish 0) :=
  (step_pdHold p hr).trans ((if_pos hd).trans (if_pos ho))

/-- One more tick of a delay counted. -/
theorem settleAt_advance_countDelay : (settleAt s m).advance.countDelay = settleAt s (m + 1) := by
  simp [settleAt, State.after, State.advance, State.countDelay, Nat.add_assoc, Nat.sub_sub]

section
variable (p : s.ph = .pdHold)
include p

/-- During the hold nothing but the counter changes (40_sequencer.md R81). -/
theorem ticks_hold (hm : m < s.dlycnt) (hr : s.NoRst m) : ticks m s = .next (settleAt s m) := by
  induction m with
  | zero => rfl
  | succ m ih =>
    have more : 1 < (settleAt s m).dlycnt := Nat.lt_sub_of_add_lt (by omega)
    have count := step_pdHold_more (s := settleAt s m) p (by simpa using hr m (Nat.lt_succ_self m)) more
    rw [settleAt_advance_countDelay] at count
    exact ticks_succ_last (ih (by omega) (State.noRst_mono hr (Nat.le_succ m))) count

/-- PWRDN's hold takes as many ticks as its counter holds, the last of which responds (40_sequencer.md R81). -/
theorem ticks_hold_done_of_pwrdn (ho : s.op = opPwrdn) (h1 : 1 ≤ s.dlycnt) (hr : s.NoRst s.dlycnt) :
    ticks s.dlycnt s = .next (settleDone s) := by
  have counted := ticks_hold p (Nat.sub_one_lt_of_le h1 le_rfl) (State.noRst_mono hr (Nat.sub_le _ 1))
  have last : step (settleAt s (s.dlycnt - 1)) = .next (settleDone s) :=
    step_pdHold_last_of_pwrdn (s := settleAt s (s.dlycnt - 1)) p (by simpa using hr (s.dlycnt - 1) (by omega))
      (Nat.sub_sub_self h1).le ho
  simpa [Nat.sub_add_cancel h1] using ticks_succ_last counted last

end

/-! ### Idle ticks without a command -/

/-- While the host presents neither `rst` nor a command, IDLE only lets the inputs pass (40_sequencer.md R71). -/
theorem ticks_idle_quiet (p : s.ph = .idle) (quiet : ∀ j, j < m → (s.hostAt j).rst = 0 ∧ (s.hostAt j).cmdValid = 0) :
    ticks m s = .next (s.after m) := by
  induction m with
  | zero => rfl
  | succ m ih =>
    have pass : step (s.after m) = .next (s.after (m + 1)) := by
      obtain ⟨hr, hv⟩ := quiet m (Nat.lt_succ_self m)
      rw [step_idle_quiet (s := s.after m) p (by simpa [State.after_hostAt] using hr)
        (by simpa [State.after_hostAt] using hv)]
      simp [State.after, State.advance, Nat.add_assoc]
    exact ticks_succ_last (ih fun j hj => quiet j (Nat.lt_succ_of_lt hj)) pass

/-! ### PWRDN as one step -/

/-- The state that PWRDN's accept tick leaves (43_power.md R110). -/
def pwrdnAccepted (s : State) : State := ((s.dropResponse.own opPwrdn).pinWriteSck 0).goTo .pdRise

theorem exec_pwrdn_eq : exec .pwrdn s = .next (pwrdnAccepted s) := rfl

/-- Settles O43: from the state that the accept tick leaves, PD_RISE starts the hold, the hold runs to its response, and
the idle ticks after it change no register; each of these states is known whole. -/
theorem pwrdnHoldsTheClockHigh : Obligations.PwrdnHoldsTheClockHigh := by
  refine ⟨rfl, fun s => ⟨pwrdnAccepted s, exec_pwrdn_eq, rfl, rfl, fun hc => hc.hold, fun h1 hr => ?_⟩⟩
  have rise := step_pdRise_eq (s := pwrdnAccepted s) rfl (hr 0 (Nat.succ_pos _))
  refine ⟨fun j hj hle => ?during, ?after⟩
  case during =>
    obtain ⟨m, rfl⟩ := Nat.exists_eq_add_of_le' hj
    have held := ticks_hold (s := holdStarted (pwrdnAccepted s)) rfl hle
      (holdStarted_noRst (State.noRst_mono hr (by omega)))
    exact ⟨_, (ticks_succ rise).trans held, rfl, rfl, rfl⟩
  case after =>
    have done := ticks_hold_done_of_pwrdn (s := holdStarted (pwrdnAccepted s)) rfl rfl h1 (holdStarted_noRst hr)
    exact ⟨_, (ticks_succ rise).trans done, rfl, rfl, rfl, rfl, rfl, rfl, settleDone_dlycnt h1, rfl, rfl, rfl, rfl, rfl,
      rfl, fun m quiet => ⟨_, ticks_idle_quiet rfl quiet, rfl, rfl, rfl⟩⟩

/-! ### PWRUP as one step -/

/-- The state that PWRUP's accept tick leaves (43_power.md R111). -/
def pwrupAccepted (s : State) : State := ((s.dropResponse.own opPwrup).pinWriteSck 0).beginSettle

theorem exec_pwrup_eq : exec .pwrup s = .next (pwrupAccepted s) := rfl

/-- Settles O44: the accept tick leaves the first state of the settle delay, which runs to its response. -/
theorem pwrupWaitsTheSettleDelay : Obligations.PwrupWaitsTheSettleDelay := by
  refine ⟨rfl, fun s => ⟨pwrupAccepted s, exec_pwrup_eq, rfl, rfl, fun hc => hc.settle, fun h1 hr => ?_⟩⟩
  have done := ticks_settleDone (s := pwrupAccepted s) rfl rfl h1 hr
  exact ⟨fun j hj => ⟨_, ticks_settleAt rfl hj (State.noRst_mono hr hj.le), rfl, rfl, rfl⟩,
    _, done, rfl, rfl, rfl, rfl, rfl, rfl, settleDone_dlycnt h1, rfl, rfl, rfl, rfl, rfl, rfl⟩

end Sys2Proof.Machine
end

section
/-! PROOFS. The hardware reset: what it fixes and what it keeps, and the tick with `rst` high
(70_reset_and_hazards.md). -/

namespace Sys2Proof.Machine

/-- The reset as an update of the state it meets: R23 fixes every register but SHR, and the configuration, the tick count
and the inputs to come are kept (10_state.md R23). -/
theorem State.hardReset_eq (s : State) :
    s.hardReset =
      { s with
        sel := 0b01, sck := 0, ph := .idle, rspValid := 0, rspSt := 0, rspData := 0, op := 0, bitcnt := 0, plscnt := 0,
        pollcnt := 0, dlycnt := 0, shr := Config.freeShr s.now } := rfl

/-- Settles O9: with `rst` high the step is the reset of the advanced state, and SHR takes its free value. -/
theorem hardwareResetOverridesEverything : Obligations.HardwareResetOverridesEverything := by
  intro s rstHigh
  refine ⟨Config.freeShr s.advance.now, ?_⟩
  rw [step_rst rstHigh, State.hardReset_eq]

end Sys2Proof.Machine
end

section
/-! PROOFS. Decoding and encoding are inverse to each other, command words and source lines by evaluation, and SETGAIN with
the number GETGAIN answered (30_encoding.md, 42_gain_select.md R104). -/

namespace Sys2Proof

/-- The encoding of every well-formed command carries its opcode and its operand in their fields. -/
theorem commandFields (i : Instr) : Laws.CommandFields.Statement i := by
  cases i with
  | read => exact Laws.CommandFields.read
  | setgain g => exact Laws.CommandFields.setgain g
  | getgain => exact Laws.CommandFields.getgain
  | pwrdn => exact Laws.CommandFields.pwrdn
  | pwrup => exact Laws.CommandFields.pwrup
  | reset => exact Laws.CommandFields.reset

/-- Settles O2: the two fields of the encoding are the command's, and they are all the decoder looks at. -/
theorem decodeUndoesEncode : Obligations.DecodeUndoesEncode := by
  intro i wf
  obtain ⟨opc, opnd, -⟩ := commandFields i wf
  exact decode_eq_ok_iff.mpr ⟨opc.symm, opnd.symm⟩

/-- Settles O3: the decoder yields well-formed commands only and drops no bit, and it undoes the encoding. -/
theorem decodeAcceptsExactlyTheEncodings : Obligations.DecodeAcceptsExactlyTheEncodings := by
  intro w i
  constructor
  · exact fun h => ⟨wellFormed_of_decode h, encode_of_decode h⟩
  · rintro ⟨wf, rfl⟩
    exact decodeUndoesEncode i wf

/-- Settles O1: each word by evaluation. -/
theorem commandWordsDecode : Obligations.CommandWordsDecode := by
  unfold Obligations.CommandWordsDecode
  decide

namespace Machine

/-- The words of the example lines (30_encoding.md R61). -/
theorem assembleLine_examples :
    assembleLine "READ" = some 0x1000 ∧ assembleLine "SETGAIN 128" = some 0x2080 ∧
    assembleLine "SETGAIN 64" = some 0x2040 ∧ assembleLine "SETGAIN 32" = some 0x2020 ∧
    assembleLine "SETGAIN 999" = some 0x23E7 ∧ assembleLine "GETGAIN" = some 0x3000 ∧
    assembleLine "PWRDN" = some 0x4000 ∧ assembleLine "PWRUP" = some 0x5000 ∧ assembleLine "RESET" = some 0x6000 := by
  decide

/-- Settles O6: each line by evaluation, the expansions by definition. -/
theorem sourceLinesAssemble : Obligations.SourceLinesAssemble := by
  obtain ⟨read, g128, g64, g32, g999, getgain, pwrdn, pwrup, reset⟩ := assembleLine_examples
  refine ⟨read, g128, g64, g32, g999, getgain, pwrdn, pwrup, reset, ?comment, ?hex, ?low, ?high, ?tooHigh,
    ?readraw, ?curgain, ?readsReadraw, ?readsCurgain, ?readsPwrcycle, ?readsWithb, fun g => ⟨rfl, rfl, rfl⟩,
    fun n g => rfl⟩
  all_goals decide

/-- GETGAIN's answer holds the gain number as it is: every gain of the table fits the payload (42_gain_select.md R103). -/
theorem zext32_toNat_of_gainOf {g : Nat} {x : BitVec 2} (h : gainOf x = some g) : (zext32 g).toNat = g := by
  rcases gainOf_eq_some.mp h with ⟨rfl, -⟩ | ⟨rfl, -⟩ | ⟨rfl, -⟩ <;> rfl

/-- Settles O18: GETGAIN answers the gain of SEL's row, and the same row of SETGAIN's table gives SEL back. -/
theorem savedGainRestoresTheSelection : Obligations.SavedGainRestoresTheSelection := by
  intro s a later h
  obtain ⟨g, hg, rfl⟩ := execGetgain_cases h
  have saved : (s.dropResponse.respond .ok (zext32 g)).rspData.toNat = g := zext32_toNat_of_gainOf hg
  rw [saved]
  exact ⟨_, exec_setgain_of_supported (selOf_eq_some_iff_gainOf.mpr hg), rfl, rfl, rfl⟩

end Machine

end Sys2Proof
end

section
/-! PROOFS. The tick of each phase and the accept tick of each command, from the laws of the step (40_sequencer.md). -/

namespace Sys2Proof.Machine

variable {s t : State}

/-! ### Accept ticks -/

/-- Settles O7: in IDLE the presented word is decoded and its command executed. -/
theorem stepRunsTheDecodedCommand : Obligations.StepRunsTheDecodedCommand := by
  rintro s i p ⟨hr, hv, hd⟩
  exact step_accepts p hr hv hd

/-- A table word of 16 bits is decoded as the command word it is. -/
theorem decode_tableWord {w : Nat} {i : Instr} (h : decodeTableWord 16 w = some i) : decode (tableWord 16 w) = .ok i := by
  rw [decodeTableWord, if_pos le_rfl] at h
  cases hd : decode (tableWord 16 w) with
  | ok j => rw [hd] at h; exact congrArg Except.ok (Option.some.inj h)
  | error e => rw [hd] at h; cases h

/-- Settles O8: `withFetchWord` presents the word in IDLE, and the decoder reads it as the table does. -/
theorem presentedTableWordIsRun : Obligations.PresentedTableWordIsRun := by
  intro s w i _ h
  exact (step_presented rfl rfl).trans (tickIdle_of_decode (decode_tableWord h))

/-- The state that RESET's accept tick leaves (43_power.md R112). -/
def resetAccepted (s : State) : State := ((s.dropResponse.own opReset).pinWriteSck 0).goTo .pdRise

theorem exec_reset_eq : exec .reset s = .next (resetAccepted s) := rfl

/-- With a selection armed GETGAIN has an answer (30_encoding.md R55). -/
theorem exists_gainOf {x : BitVec 2} (h : x ≠ 0) : ∃ g, gainOf x = some g :=
  Option.isSome_iff_exists.mp ((gainOf_isSome x).mpr h)

/-- Settles O14: READ, the supported gains and the power commands by their accept ticks, GETGAIN by its table. -/
theorem execAcceptsEveryCommand : Obligations.ExecAcceptsEveryCommand := by
  refine fun s => ⟨exec_read_eq, ?_, ?_, ?_, fun armed => ?_, exec_pwrdn_eq, exec_pwrup_eq, exec_reset_eq⟩
  · exact exec_setgain_of_supported (selOf_eq_some.mpr (.inl ⟨rfl, rfl⟩))
  · exact exec_setgain_of_supported (selOf_eq_some.mpr (.inr (.inl ⟨rfl, rfl⟩)))
  · exact exec_setgain_of_supported (selOf_eq_some.mpr (.inr (.inr ⟨rfl, rfl⟩)))
  · obtain ⟨g, hg⟩ := exists_gainOf armed
    exact ⟨_, exec_getgain_of_armed hg, rfl, rfl⟩

/-- With a selection armed every command's accept tick answers a next state. -/
theorem exists_exec (i : Instr) (armed : s.sel ≠ 0) : ∃ t, exec i s = .next t := by
  cases i with
  | read => exact ⟨_, exec_read_eq⟩
  | setgain g =>
    cases hg : selOf g with
    | some x => exact ⟨_, exec_setgain_of_supported hg⟩
    | none => exact ⟨s.dropResponse.raise .invalidGain, by rw [exec, execSetgain, hg]⟩
  | getgain =>
    obtain ⟨g, hg⟩ := exists_gainOf armed
    exact ⟨_, exec_getgain_of_armed hg⟩
  | pwrdn => exact ⟨_, exec_pwrdn_eq⟩
  | pwrup => exact ⟨_, exec_pwrup_eq⟩
  | reset => exact ⟨_, exec_reset_eq⟩

/-- Settles O15: what each of the accept ticks writes leaves the other registers as they were. -/
theorem acceptTickFrame : Obligations.AcceptTickFrame := by
  intro i s t h
  have unwritten : t.shr = s.shr ∧ t.bitcnt = s.bitcnt ∧ t.plscnt = s.plscnt ∧ t.params = s.params ∧ t.now = s.now ∧
      t.host = s.host ∧ t.din = s.din := by
    rcases exec_cases h with ⟨-, rfl⟩ | ⟨g, x, -, -, rfl⟩ | ⟨g, -, -, rfl⟩ | ⟨-, g, -, rfl⟩ | ⟨-, rfl⟩ | ⟨-, rfl⟩ |
      ⟨-, rfl⟩ <;> exact ⟨rfl, rfl, rfl, rfl, rfl, rfl, rfl⟩
  obtain ⟨shr, bitcnt, plscnt, params, now, host, din⟩ := unwritten
  refine ⟨shr, bitcnt, plscnt, params, now, host, din, ?_⟩
  rcases exec_cases h with ⟨rfl, rfl⟩ | ⟨g, x, rfl, hg, rfl⟩ | ⟨g, rfl, -, rfl⟩ | ⟨rfl, g, -, rfl⟩ | ⟨rfl, rfl⟩ |
    ⟨rfl, rfl⟩ | ⟨rfl, rfl⟩
  · exact ⟨fun _ => rfl, fun _ => rfl, fun _ => rfl, fun _ => ⟨rfl, rfl⟩⟩
  · refine ⟨fun other => absurd rfl (other g), fun keeps => ?_, fun _ => rfl, fun _ => ⟨rfl, rfl⟩⟩
    simp [hg] at keeps
  · exact ⟨fun _ => rfl, fun _ => rfl, fun _ => rfl, fun absent => absurd absent (by simp)⟩
  · exact ⟨fun _ => rfl, fun _ => rfl, fun _ => rfl, fun absent => absurd absent (by simp)⟩
  · exact ⟨fun _ => rfl, by simp, fun _ => rfl, fun _ => ⟨rfl, rfl⟩⟩
  · exact ⟨fun _ => rfl, by simp, fun other => absurd rfl other, fun _ => ⟨rfl, rfl⟩⟩
  · exact ⟨fun _ => rfl, by simp, fun _ => rfl, fun _ => ⟨rfl, rfl⟩⟩

/-! ### Phases -/

/-- Settles O11: the branches of WAIT and BIT_L alone mention DIN. -/
theorem dinIsReadInWaitAndBitLOnly : Obligations.DinIsReadInWaitAndBitLOnly := by
  intro s rst v d d' w hw hb
  cases p : s.ph with
  | wait => exact absurd p hw
  | bitL => exact absurd p hb
  | _ => simp [tick, p]

/-- Settles O19: the ready test, then the limit, then the count. -/
theorem waitTickPollsTheReadyLine : Obligations.WaitTickPollsTheReadyLine := by
  refine fun s p hr => ⟨fun low => ?_, fun n high hn last => ?_, fun high more => ?_⟩
  · exact (step_wait p hr).trans (if_pos low)
  · rw [step_wait_high p high hr, if_pos (pollLimitReached_iff.mpr ⟨n, hn, last⟩)]
    rfl
  · rw [step_wait_high p high hr, pollLimitReached_of_allows more]
    rfl

/-- Settles O20: the two ticks of a data bit. -/
theorem bitTicksClockAndShift : Obligations.BitTicksClockAndShift :=
  fun _ hr => ⟨fun p => step_bitH_eq p hr, fun p hb => step_bitL_more p hr hb, fun p hb => step_bitL_last p hr hb⟩

/-- Settles O21: the two ticks of a trailing pulse. -/
theorem pulseTicksCountTrailingPulses : Obligations.PulseTicksCountTrailingPulses :=
  fun _ hr => ⟨fun p => step_plsH_eq p hr, fun p => step_plsL_eq p hr⟩

/-- PD_HOLD's last tick lowers the clock for RESET and starts the settle delay (40_sequencer.md R81). -/
theorem step_pdHold_last_of_reset (p : s.ph = .pdHold) (hr : (s.hostAt 0).rst = 0) (hd : s.dlycnt ≤ 1)
    (ho : s.op = opReset) : step s = .next (s.advance.pinWriteSck 0).beginSettle := by
  have other : s.advance.op ≠ opPwrdn := ho ▸ (by decide : opReset ≠ opPwrdn)
  exact (step_pdHold p hr).trans ((if_pos hd).trans ((if_neg other).trans (if_pos ho)))

/-- Settles O23: a delay counts down to 1, and its last tick is the owner's. -/
theorem delayTicksCountAndEnd : Obligations.DelayTicksCountAndEnd := by
  refine fun s hr => ⟨?settleMore, ?settleLast, ?rise, ?holdMore, ?holdPwrdn, ?holdReset, ?holdOther⟩
  case settleMore => exact fun p hd => step_settle_more p hr hd
  case settleLast => exact fun p hd => step_settle_last p hr hd
  case rise => exact fun p => step_pdRise_eq p hr
  case holdMore => exact fun p hd => step_pdHold_more p hr hd
  case holdPwrdn => exact fun p hd ho => step_pdHold_last_of_pwrdn p hr hd ho
  case holdReset => exact fun p hd ho => step_pdHold_last_of_reset p hr hd ho
  case holdOther =>
    exact fun p hd notPwrdn notReset =>
      (step_pdHold p hr).trans ((if_pos hd).trans ((if_neg notPwrdn).trans (if_neg notReset)))

end Sys2Proof.Machine
end

section
/-! PROOFS. The moves of the sequencer, one row each, and what they keep: the invariant, the phase graph, the frame of the
registers and the response (10_state.md, 40_sequencer.md). -/

namespace Sys2Proof.Machine

variable {s t : State}

/-! ### The moves -/

/-- The rows of the sequencer with `rst` low: what a tick does, and when (40_sequencer.md R71 to R81). Every step with
`rst` low is one of them: `move_of_step`. -/
inductive Move (s : State) : State → Prop
  | quiet (p : s.ph = .idle) (hv : (s.hostAt 0).cmdValid = 0) : Move s s.advance
  | illegal (p : s.ph = .idle) (hv : (s.hostAt 0).cmdValid = 1) (hd : ∃ e, decode (s.hostAt 0).cmd = .error e) :
      Move s (s.advance.dropResponse.raise .illegalCommand)
  | read (p : s.ph = .idle) (hi : s.Presents .read) : Move s (readAccepted s.advance)
  | setgain {g : Nat} {x : BitVec 2} (p : s.ph = .idle) (hi : s.Presents (.setgain g)) (hg : selOf g = some x) :
      Move s (setgainAccepted s.advance x)
  | badGain {g : Nat} (p : s.ph = .idle) (hi : s.Presents (.setgain g)) (hg : selOf g = none) :
      Move s (s.advance.dropResponse.raise .invalidGain)
  | getgain {g : Nat} (p : s.ph = .idle) (hi : s.Presents .getgain) (hg : gainOf s.sel = some g) :
      Move s (s.advance.dropResponse.respond .ok (zext32 g))
  | pwrdn (p : s.ph = .idle) (hi : s.Presents .pwrdn) : Move s (pwrdnAccepted s.advance)
  | pwrup (p : s.ph = .idle) (hi : s.Presents .pwrup) : Move s (pwrupAccepted s.advance)
  | reset (p : s.ph = .idle) (hi : s.Presents .reset) : Move s (resetAccepted s.advance)
  | ready (p : s.ph = .wait) (hd : s.pinReadDin = 0) : Move s { s.advance with bitcnt := 24, ph := .bitH }
  | timeout (p : s.ph = .wait) (hd : s.pinReadDin = 1) (hl : s.pollLimitReached = true) : Move s (s.advance.raise .timeout)
  | poll (p : s.ph = .wait) (hd : s.pinReadDin = 1) (hl : s.pollLimitReached = false) :
      Move s { s.advance with pollcnt := s.pollcnt + 1 }
  | bitH (p : s.ph = .bitH) : Move s ((s.advance.pinWriteSck 1).goTo .bitL)
  | bitLMore (p : s.ph = .bitL) (hb : s.bitcnt ≠ 1) :
      Move s { s.advance with sck := 0, shr := shiftIn s.shr s.pinReadDin, bitcnt := s.bitcnt - 1, ph := .bitH }
  | bitLLast (p : s.ph = .bitL) (hb : s.bitcnt = 1) :
      Move s { s.advance with
        sck := 0, shr := shiftIn s.shr s.pinReadDin, bitcnt := s.bitcnt - 1, plscnt := s.sel, ph := .plsH }
  | plsH (p : s.ph = .plsH) : Move s ((s.advance.pinWriteSck 1).goTo .plsL)
  | plsLMore (p : s.ph = .plsL) (hc : s.plscnt ≠ 1) :
      Move s { s.advance with sck := 0, plscnt := s.plscnt - 1, ph := .plsH }
  | plsLLast (p : s.ph = .plsL) (hc : s.plscnt = 1) :
      Move s { s.advance with sck := 0, plscnt := s.plscnt - 1, ph := .dec }
  | decRead (p : s.ph = .dec) (ho : s.op = opRead) : Move s (s.advance.finish (sext32 s.shr))
  | decSetgain (p : s.ph = .dec) (ho : s.op = opSetgain) : Move s s.advance.beginSettle
  | settleMore (p : s.ph = .settle) (hd : 1 < s.dlycnt) : Move s s.advance.countDelay
  | settleLast (p : s.ph = .settle) (hd : s.dlycnt ≤ 1) : Move s (s.advance.finish 0)
  | pdRise (p : s.ph = .pdRise) : Move s (holdStarted s)
  | holdMore (p : s.ph = .pdHold) (hd : 1 < s.dlycnt) : Move s s.advance.countDelay
  | holdPwrdn (p : s.ph = .pdHold) (hd : s.dlycnt ≤ 1) (ho : s.op = opPwrdn) : Move s (s.advance.finish 0)
  | holdReset (p : s.ph = .pdHold) (hd : s.dlycnt ≤ 1) (ho : s.op = opReset) :
      Move s (s.advance.pinWriteSck 0).beginSettle

/-- An accept tick is the move of its command. -/
theorem move_of_exec {i : Instr} (p : s.ph = .idle) (hi : s.Presents i) (h : exec i s.advance = .next t) : Move s t := by
  rcases exec_cases h with ⟨rfl, rfl⟩ | ⟨g, x, rfl, hg, rfl⟩ | ⟨g, rfl, hg, rfl⟩ | ⟨rfl, g, hg, rfl⟩ | ⟨rfl, rfl⟩ |
    ⟨rfl, rfl⟩ | ⟨rfl, rfl⟩
  · exact .read p hi
  · exact .setgain p hi hg
  · exact .badGain p hi hg
  · exact .getgain p hi hg
  · exact .pwrdn p hi
  · exact .pwrup p hi
  · exact .reset p hi

/-- PLS_L's move goes to DEC after the last pulse and to the next pulse before (40_sequencer.md R77). -/
theorem move_of_tickPlsL (p : s.ph = .plsL) (h : tickPlsL s.advance = .next t) : Move s t := by
  by_cases hc : s.advance.plscnt = 1
  · rw [tickPlsL, if_pos hc] at h
    obtain rfl := Host.Outcome.next.inj h
    exact .plsLLast p hc
  · rw [tickPlsL, if_neg hc] at h
    obtain rfl := Host.Outcome.next.inj h
    exact .plsLMore p hc

/-- Every step with `rst` low is one of the moves. -/
theorem move_of_step (h : step s = .next t) (hr : (s.hostAt 0).rst = 0) : Move s t := by
  rcases step_cases_of_noRst h hr with ⟨p, h⟩ | ⟨p, h⟩ | ⟨p, h⟩ | ⟨p, h⟩ | ⟨p, h⟩ | ⟨p, h⟩ | ⟨p, h⟩ | ⟨p, h⟩ | ⟨p, h⟩ |
    ⟨p, h⟩
  · rcases tickIdle_cases h with ⟨hv, rfl⟩ | ⟨hv, i, hd, h⟩ | ⟨hv, hd, rfl⟩
    · exact .quiet p hv
    · exact move_of_exec p ⟨hr, hv, hd⟩ h
    · exact .illegal p hv hd
  · rcases tickWait_cases h with ⟨hd, rfl⟩ | ⟨hd, hl, rfl⟩ | ⟨hd, hl, rfl⟩
    · exact .ready p hd
    · exact .timeout p hd hl
    · exact .poll p hd hl
  · obtain rfl := Host.Outcome.next.inj h; exact .bitH p
  · rcases tickBitL_cases h with ⟨hb, rfl⟩ | ⟨hb, rfl⟩
    · exact .bitLLast p hb
    · exact .bitLMore p hb
  · obtain rfl := Host.Outcome.next.inj h; exact .plsH p
  · exact move_of_tickPlsL p h
  · rcases tickDec_cases h with ⟨ho, rfl⟩ | ⟨ho, rfl⟩
    · exact .decRead p ho
    · exact .decSetgain p ho
  · rcases tickSettle_cases h with ⟨hd, rfl⟩ | ⟨hd, rfl⟩
    · exact .settleLast p hd
    · exact .settleMore p hd
  · obtain rfl := Host.Outcome.next.inj h; exact .pdRise p
  · rcases tickPdHold_cases h with ⟨hd, ho, rfl⟩ | ⟨hd, ho, rfl⟩ | ⟨hd, rfl⟩
    · exact .holdPwrdn p hd ho
    · exact .holdReset p hd ho
    · exact .holdMore p hd

/-- Every step is a hardware reset or one of the moves. -/
theorem hardReset_or_move (h : step s = .next t) :
    ((s.hostAt 0).rst = 1 ∧ t = s.advance.hardReset) ∨ ((s.hostAt 0).rst = 0 ∧ Move s t) :=
  (step_cases h).imp_right fun ⟨hr, _⟩ => ⟨hr, move_of_step h hr⟩

/-! ### The inputs and the parameters -/

/-- A move writes no parameter and leaves the tick count and the inputs to come as `advance` does. -/
theorem Move.inputs (m : Move s t) :
    t.params = s.params ∧ t.now = s.advance.now ∧ t.host = s.advance.host ∧ t.din = s.advance.din := by
  cases m <;> exact ⟨rfl, rfl, rfl, rfl⟩

/-- Settles O12: a reset and every move leave the inputs as `advance` does. -/
theorem stepMovesInputsOnAndKeepsParameters : Obligations.StepMovesInputsOnAndKeepsParameters := by
  intro s t h
  obtain ⟨params, now, host, din⟩ :
      t.params = s.params ∧ t.now = s.advance.now ∧ t.host = s.advance.host ∧ t.din = s.advance.din := by
    rcases hardReset_or_move h with ⟨-, rfl⟩ | ⟨-, m⟩
    · exact ⟨rfl, rfl, rfl, rfl⟩
    · exact m.inputs
  refine ⟨params, now, fun k => ?_, fun k => ?_⟩
  · rw [← State.advance_dinAt, State.dinAt, State.dinAt, din, now]
  · rw [← State.advance_hostAt, State.hostAt, State.hostAt, host, now]

/-! ### Who writes what -/

/-- SEL's only writer among the moves is SETGAIN with a supported gain (10_state.md R13). -/
theorem Move.sel_cases (m : Move s t) :
    t.sel = s.sel ∨ s.ph = .idle ∧ ∃ g, s.Presents (.setgain g) ∧ selOf g = some t.sel := by
  cases m with
  | setgain p hi hg => exact .inr ⟨p, _, hi, hg⟩
  | _ => exact .inl rfl

/-- Settles O28: a reset writes 0b01, and SETGAIN the selection of its gain's row. -/
theorem selChangesOnlyByResetOrSetgain : Obligations.SelChangesOnlyByResetOrSetgain := by
  intro s t h changed
  rcases hardReset_or_move h with ⟨hr, rfl⟩ | ⟨-, m⟩
  · exact .inl ⟨hr, rfl⟩
  · rcases m.sel_cases with same | ⟨p, g, hi, hg⟩
    · exact absurd same changed
    · exact .inr ⟨p, g, hi, selOf_eq_some.mp hg⟩

/-- Settles O29: BIT_L's are the only moves that write SHR. -/
theorem shrChangesOnlyByShifting : Obligations.ShrChangesOnlyByShifting := by
  intro s t h hr changed
  cases move_of_step h hr with
  | bitLMore p | bitLLast p => exact ⟨p, rfl⟩
  | _ => exact absurd rfl changed

/-- A gain that arms a selection is one of the three legal ones (30_encoding.md R54). -/
theorem supported_of_selOf {g : Nat} {x : BitVec 2} (h : selOf g = some x) : g = 128 ∨ g = 64 ∨ g = 32 := by
  rcases selOf_eq_some.mp h with ⟨rfl, -⟩ | ⟨rfl, -⟩ | ⟨rfl, -⟩ <;> simp

/-- Settles O30: move by move, the level is written in an accept tick or in a phase that drives the clock. -/
theorem sckChangesOnlyWhereWritten : Obligations.SckChangesOnlyWhereWritten := by
  intro s t h changed
  rcases hardReset_or_move h with ⟨hr, rfl⟩ | ⟨-, m⟩
  · exact .inl hr
  · right
    cases m with
    | setgain p hi hg => exact .inl ⟨p, rfl, .inr (.inr (.inr ⟨_, hi, supported_of_selOf hg⟩))⟩
    | pwrdn p hi => exact .inl ⟨p, rfl, .inl hi⟩
    | pwrup p hi => exact .inl ⟨p, rfl, .inr (.inl hi)⟩
    | reset p hi => exact .inl ⟨p, rfl, .inr (.inr (.inl hi))⟩
    | bitH p | bitLMore p | bitLLast p | plsH p | plsLMore p | plsLLast p | pdRise p | holdReset p =>
      exact .inr (by simp [p])
    | _ => exact absurd rfl changed

/-! ### The response -/

/-- A response as the block gives it: present in IDLE, with one of the block's codes, and without data unless OK
(10_state.md R19; 30_encoding.md R51, R58; 40_sequencer.md R72). -/
structure State.Responds (t : State) : Prop where
  idle : t.ph = .idle
  valid : t.rspValid = 1
  status : t.rspSt = Status.ok.code ∨ t.rspSt = Status.timeout.code ∨ t.rspSt = Status.invalidGain.code ∨
    t.rspSt = Status.illegalCommand.code
  noData : t.rspSt ≠ Status.ok.code → t.rspData = 0

theorem State.finish_responds (s : State) (x : Payload) : (s.finish x).Responds :=
  ⟨rfl, rfl, .inl rfl, fun h => absurd rfl h⟩

theorem State.raise_responds (s : State) (e : BlockError) : (s.raise e).Responds :=
  ⟨rfl, rfl, by cases e <;> simp [BlockError.status], fun _ => rfl⟩

/-- What a move does to the response: it gives one, it drops one as a command begins, or it keeps all of it, and then the
block is idle without a command or stays busy (10_state.md R19, R20). -/
theorem Move.response_cases (m : Move s t) :
    t.Responds ∨
    (t.rspSt = s.rspSt ∧ t.rspData = s.rspData ∧
      ((s.ph = .idle ∧ (s.hostAt 0).cmdValid = 1 ∧ t.ph ≠ .idle ∧ t.rspValid = 0) ∨
        (s.ph = .idle ∧ (s.hostAt 0).cmdValid = 0 ∧ t = s.advance) ∨
        (s.ph ≠ .idle ∧ t.ph ≠ .idle ∧ t.rspValid = s.rspValid))) := by
  cases m with
  | illegal | badGain | timeout => exact .inl (State.raise_responds _ _)
  | decRead | settleLast | holdPwrdn => exact .inl (State.finish_responds _ _)
  | getgain p => exact .inl ⟨p, rfl, .inl rfl, fun h => absurd rfl h⟩
  | read p hi | setgain p hi | pwrdn p hi | pwrup p hi | reset p hi =>
    exact .inr ⟨rfl, rfl, .inl ⟨p, hi.2.1, Phase.noConfusion, rfl⟩⟩
  | quiet p hv => exact .inr ⟨rfl, rfl, .inr (.inl ⟨p, hv, rfl⟩)⟩
  | poll p | settleMore p | holdMore p =>
    exact .inr ⟨rfl, rfl, .inr (.inr ⟨by simp [p], by simp [p], rfl⟩)⟩
  | ready p | bitH p | bitLMore p | bitLLast p | plsH p | plsLMore p | plsLLast p | decSetgain p | pdRise p | holdReset p =>
    exact .inr ⟨rfl, rfl, .inr (.inr ⟨by simp [p], Phase.noConfusion, rfl⟩)⟩

theorem busy_eq_zero_iff : s.busy = 0 ↔ s.ph = .idle := by
  simp [State.busy]

/-- Settles O31: a busy block either gives its response in IDLE or stays busy without one. -/
theorem busyFallsAsTheResponseRises : Obligations.BusyFallsAsTheResponseRises := by
  intro s t hi busy hr h
  have p : s.ph ≠ .idle := by simpa [State.busy] using busy
  rw [busy_eq_zero_iff]
  rcases (move_of_step h hr).response_cases with response | ⟨-, -, ⟨q, -⟩ | ⟨q, -⟩ | ⟨-, q, valid⟩⟩
  · exact iff_of_true response.idle response.valid
  · exact absurd q p
  · exact absurd q p
  · exact iff_of_false q (by simp [valid, hi.quiet p])

/-- Settles O32: a response given replaces the old one; otherwise status and data stay, and the valid bit falls only as
a command begins. -/
theorem responseHoldsUntilTheNextAccept : Obligations.ResponseHoldsUntilTheNextAccept := by
  intro s t h hr
  refine ⟨fun p hv => ?_, ?_⟩
  · rw [step_idle_quiet p hr hv] at h
    obtain rfl := Host.Outcome.next.inj h
    rfl
  rcases (move_of_step h hr).response_cases with response | ⟨st, data, ⟨p, hv, -⟩ | ⟨-, -, rfl⟩ | ⟨-, -, valid⟩⟩
  · have present : t.rspValid ≠ 0 := by simp [response.valid]
    exact ⟨fun _ absent => absurd absent present, fun absent => absurd absent present⟩
  · exact ⟨fun _ _ => ⟨p, hv⟩, fun _ => ⟨st, data⟩⟩
  · exact ⟨fun there absent => absurd (there.symm.trans absent) (by decide), fun _ => ⟨st, data⟩⟩
  · exact ⟨fun there absent => absurd (there.symm.trans (valid.symm.trans absent)) (by decide), fun _ => ⟨st, data⟩⟩

/-! ### The invariant -/

/-- Every move keeps a selection armed (10_state.md R13). -/
theorem Move.armed (m : Move s t) (hi : s.Inv) : t.sel ≠ 0 := by
  rcases m.sel_cases with same | ⟨-, g, -, hg⟩
  · exact same ▸ hi.armed
  · exact selOf_ne_zero hg

/-- A counter that has something left to count goes down by one. -/
theorem toNat_sub_one {n : Nat} {x : BitVec n} (h : 1 ≤ x.toNat) : (x - 1).toNat = x.toNat - 1 := by
  have hx := x.isLt
  have one : (1 : BitVec n).toNat = 1 := (BitVec.toNat_ofNat 1 n).trans (Nat.mod_eq_of_lt (by omega))
  rw [BitVec.toNat_sub_of_le (by rw [BitVec.le_def, one]; exact h), one]

/-- A counter that has something left to count, but not its last, is above 1. -/
theorem one_lt_toNat_of_ne_one {n : Nat} {x : BitVec n} (h : 1 ≤ x.toNat) (hx : x ≠ 1) : 1 < x.toNat := by
  refine lt_of_le_of_ne h fun one => hx ?_
  apply BitVec.eq_of_toNat_eq
  have := x.isLt
  rw [← one]
  exact ((BitVec.toNat_ofNat 1 n).trans (Nat.mod_eq_of_lt (by omega))).symm

/-- What the invariant says of the phase the block is in. -/
theorem State.Inv.inPhase {q : Phase} (hi : s.Inv) (p : s.ph = q) : { s with ph := q }.PhaseInv := by
  subst p
  exact hi.phase

/-- The invariant's clause for a phase holds of a state in that phase. -/
theorem State.phaseInv_of {q : Phase} (p : s.ph = q) (h : { s with ph := q }.PhaseInv) : s.PhaseInv := by
  subst p
  exact h

/-- BITCNT stays at 24 or below: a frame starts it there, and it counts down (10_state.md R16). -/
theorem Move.bits (m : Move s t) (hi : s.Inv) : t.bitcnt.toNat ≤ 24 := by
  cases m with
  | ready => exact (show (24 : BitVec 5).toNat ≤ 24 by decide)
  | bitLMore p | bitLLast p =>
    obtain ⟨-, left, -⟩ := hi.inPhase p
    exact (toNat_sub_one left).trans_le ((Nat.sub_le _ _).trans hi.bits)
  | _ => exact hi.bits

/-- Every move leads to the position and the clock that its next phase asks for. -/
theorem Move.phaseInv (m : Move s t) (hi : s.Inv) : t.PhaseInv := by
  have poll := hi.params.poll
  have hold := hi.params.hold
  have settle := hi.params.settle
  have armed := pulses_bounds hi.armed
  cases m with
  | quiet p | getgain p => exact State.phaseInv_of p trivial
  | illegal | badGain | timeout | decRead | settleLast | holdPwrdn => trivial
  | read p => exact ⟨.inl rfl, fun n hn => poll n hn⟩
  | setgain p => exact ⟨.inr ⟨rfl, rfl⟩, fun n hn => poll n hn⟩
  | pwrdn => exact ⟨.inl rfl, rfl⟩
  | pwrup => exact ⟨.inr (.inl rfl), rfl, settle, le_rfl⟩
  | reset => exact ⟨.inr rfl, rfl⟩
  | ready p =>
    obtain ⟨owner, -⟩ := hi.inPhase p
    refine ⟨owner.imp_right And.left, (show 1 ≤ (24 : BitVec 5).toNat by decide), ?_⟩
    exact owner.imp (fun read => ⟨rfl, read⟩) And.right
  | poll p hd hl =>
    obtain ⟨owner, -⟩ := hi.inPhase p
    have more : ∀ n, s.params.pollLimit = some n → s.pollcnt + 1 < n := fun n hn => by
      by_contra last
      exact absurd (pollLimitReached_iff.mpr ⟨n, hn, by omega⟩) (by simp [hl])
    exact State.phaseInv_of p ⟨owner, more⟩
  | bitH p =>
    obtain ⟨owner, left, -⟩ := hi.inPhase p
    exact ⟨owner, left, rfl⟩
  | bitLMore p hb =>
    obtain ⟨owner, left, -⟩ := hi.inPhase p
    have more := one_lt_toNat_of_ne_one left hb
    exact ⟨owner, (Nat.le_sub_one_of_lt more).trans_eq (toNat_sub_one left).symm, .inr rfl⟩
  | bitLLast p =>
    obtain ⟨owner, -⟩ := hi.inPhase p
    exact ⟨owner, armed.1, le_rfl, rfl⟩
  | plsH p =>
    obtain ⟨owner, left, most, -⟩ := hi.inPhase p
    exact ⟨owner, left, most, rfl⟩
  | plsLMore p hc =>
    obtain ⟨owner, left, most, -⟩ := hi.inPhase p
    have more := one_lt_toNat_of_ne_one left hc
    have counted := toNat_sub_one left
    exact ⟨owner, (Nat.le_sub_one_of_lt more).trans_eq counted.symm, counted.trans_le ((Nat.sub_le _ 1).trans most), rfl⟩
  | plsLLast p =>
    obtain ⟨owner, -⟩ := hi.inPhase p
    exact ⟨owner, rfl⟩
  | decSetgain p ho =>
    obtain ⟨-, low⟩ := hi.inPhase p
    exact ⟨.inl ho, low, settle, le_rfl⟩
  | settleMore p hd =>
    obtain ⟨owner, low, -, most⟩ := hi.inPhase p
    exact State.phaseInv_of p ⟨owner, low, Nat.le_sub_one_of_lt hd, (Nat.sub_le _ 1).trans most⟩
  | pdRise p =>
    obtain ⟨owner, -⟩ := hi.inPhase p
    exact ⟨owner, rfl, hold, le_rfl⟩
  | holdMore p hd =>
    obtain ⟨owner, high, -, most⟩ := hi.inPhase p
    exact State.phaseInv_of p ⟨owner, high, Nat.le_sub_one_of_lt hd, (Nat.sub_le _ 1).trans most⟩
  | holdReset _ _ ho => exact ⟨.inr (.inr ho), rfl, settle, le_rfl⟩

/-- Every move keeps the invariant. -/
theorem Move.inv (m : Move s t) (hi : s.Inv) : t.Inv := by
  obtain ⟨params, -⟩ := m.inputs
  have response : (t.ph ≠ .idle → t.rspValid = 0) ∧
      (t.Responds ∨ t.rspSt = s.rspSt ∧ t.rspData = s.rspData) := by
    rcases m.response_cases with given | ⟨st, data, ⟨-, -, -, dropped⟩ | ⟨p, -, rfl⟩ | ⟨busy, -, kept⟩⟩
    · exact ⟨absurd given.idle, .inl given⟩
    · exact ⟨fun _ => dropped, .inr ⟨st, data⟩⟩
    · exact ⟨absurd p, .inr ⟨st, data⟩⟩
    · exact ⟨fun _ => kept.trans (hi.quiet busy), .inr ⟨st, data⟩⟩
  obtain ⟨quiet, given | ⟨st, data⟩⟩ := response
  · exact ⟨params ▸ hi.params, m.armed hi, m.bits hi, quiet, given.status, given.noData, m.phaseInv hi⟩
  · exact ⟨params ▸ hi.params, m.armed hi, m.bits hi, quiet, st ▸ hi.status, st ▸ data ▸ hi.noData, m.phaseInv hi⟩

/-- The reference instantiation meets 00_scope.md R3. -/
theorem reference_wellFormed : Config.reference.WellFormed where
  poll _ h := by cases h
  hold := by decide
  settle := by decide

/-- An idle block with the reset values of SEL, BITCNT and the response meets the invariant (10_state.md R23). -/
theorem State.inv_of_resetValues (params : s.params.WellFormed) (p : s.ph = .idle) (sel : s.sel = 0b01)
    (bitcnt : s.bitcnt = 0) (st : s.rspSt = 0) (data : s.rspData = 0) : s.Inv where
  params := params
  armed := sel ▸ (by decide : (0b01 : BitVec 2) ≠ 0)
  bits := bitcnt ▸ Nat.zero_le 24
  quiet busy := absurd p busy
  status := .inl st
  noData _ := data
  phase := State.phaseInv_of p trivial

/-- Settles O26: a reset re-establishes the invariant, and every move keeps it. -/
theorem stepKeepsTheInvariant : Obligations.StepKeepsTheInvariant := by
  intro s t hi h
  rcases hardReset_or_move h with ⟨-, rfl⟩ | ⟨-, m⟩
  · exact State.inv_of_resetValues hi.params rfl rfl rfl rfl rfl
  · exact m.inv hi

/-- Settles O25: the reset parameters are well formed and the reset state is idle. -/
theorem resetMeetsTheInvariant : Obligations.ResetMeetsTheInvariant :=
  State.inv_of_resetValues reference_wellFormed rfl rfl rfl rfl rfl

/-- Where the invariant holds every step answers a next state. -/
theorem exists_step (hi : s.Inv) : ∃ t, step s = .next t := by
  by_cases reset : (s.hostAt 0).rst = 1
  · exact ⟨_, step_rst reset⟩
  have hr := bit_eq_zero reset
  cases p : s.ph with
  | idle =>
    by_cases hv : (s.hostAt 0).cmdValid = 1
    · by_cases hd : ∃ i, decode (s.hostAt 0).cmd = .ok i
      · obtain ⟨i, hd⟩ := hd
        rw [step_accepts p hr hv hd]
        exact exists_exec i hi.armed
      · exact ⟨_, step_rejects p hr hv hd⟩
    · exact ⟨_, step_idle_quiet p hr (bit_eq_zero hv)⟩
  | wait =>
    by_cases low : s.dinAt 0 = 0
    · exact ⟨_, step_wait_ready p low hr⟩
    · exact ⟨_, step_wait_high p (bit_eq_one low) hr⟩
  | bitH => exact ⟨_, step_bitH_eq p hr⟩
  | bitL =>
    by_cases last : s.bitcnt = 1
    · exact ⟨_, step_bitL_last p hr last⟩
    · exact ⟨_, step_bitL_more p hr last⟩
  | plsH => exact ⟨_, step_plsH_eq p hr⟩
  | plsL => exact ⟨_, step_plsL_eq p hr⟩
  | dec =>
    obtain ⟨-, owner, read, setgain, -⟩ := decTickDeliversOrSettles s p hr
    exact (owner hi).elim (fun ho => ⟨_, read ho⟩) (fun ho => ⟨_, setgain ho⟩)
  | settle =>
    rcases Nat.lt_or_ge 1 s.dlycnt with more | last
    · exact ⟨_, step_settle_more p hr more⟩
    · exact ⟨_, step_settle_last p hr last⟩
  | pdRise => exact ⟨_, step_pdRise_eq p hr⟩
  | pdHold =>
    rcases Nat.lt_or_ge 1 s.dlycnt with more | last
    · exact ⟨_, step_pdHold_more p hr more⟩
    · obtain ⟨pwrdn | reset, -⟩ := hi.inPhase p
      · exact ⟨_, step_pdHold_last_of_pwrdn p hr last pwrdn⟩
      · exact ⟨_, step_pdHold_last_of_reset p hr last reset⟩

/-- Settles O27: the invariant rules out every refusal, and the step keeps it. -/
theorem stepNeverStops : Obligations.StepNeverStops := by
  intro s hi
  obtain ⟨t, h⟩ := exists_step hi
  exact ⟨t, h, stepKeepsTheInvariant s t hi h⟩

/-! ### The phase graph -/

/-- The graph's row for the two phases a move leads between. -/
theorem State.mayGo_of {q r : Phase} (p : s.ph = q) (n : t.ph = r) (h : { s with ph := q }.MayGo r) : s.MayGo t.ph := by
  subst p n
  exact h

/-- Every move from a state that meets the invariant is in the phase graph (40_sequencer.md R82). -/
theorem Move.mayGo (m : Move s t) (hi : s.Inv) : s.MayGo t.ph := by
  cases m with
  | quiet p hv => exact State.mayGo_of p p (Or.inl hv)
  | getgain p hi => exact State.mayGo_of p p (Or.inr (Or.inl hi))
  | badGain p hi hg => exact State.mayGo_of p rfl (Or.inr (Or.inr (Or.inl ⟨_, hi, selOf_eq_none.mp hg⟩)))
  | illegal p _ hd => exact State.mayGo_of p rfl (Or.inr (Or.inr (Or.inr hd)))
  | read p hi => exact State.mayGo_of p rfl (Or.inl hi)
  | setgain p hi hg => exact State.mayGo_of p rfl (Or.inr ⟨_, hi, supported_of_selOf hg⟩)
  | pwrdn p hi => exact State.mayGo_of p rfl (Or.inl hi)
  | reset p hi => exact State.mayGo_of p rfl (Or.inr hi)
  | pwrup p hi => exact State.mayGo_of p rfl hi
  | ready p hd => exact State.mayGo_of p rfl hd
  | timeout p hd hl => exact State.mayGo_of p rfl (And.intro hd hl)
  | poll p hd hl => exact State.mayGo_of p p (And.intro hd hl)
  | bitH p | plsH p | pdRise p => exact State.mayGo_of p rfl trivial
  | bitLMore p hb =>
    obtain ⟨-, left, -⟩ := hi.inPhase p
    exact State.mayGo_of p rfl (one_lt_toNat_of_ne_one left hb)
  | bitLLast p hb => exact State.mayGo_of p rfl hb
  | plsLMore p hc =>
    obtain ⟨-, left, -⟩ := hi.inPhase p
    exact State.mayGo_of p rfl (one_lt_toNat_of_ne_one left hc)
  | plsLLast p hc => exact State.mayGo_of p rfl hc
  | decRead p ho | decSetgain p ho => exact State.mayGo_of p rfl ho
  | settleMore p hd | holdMore p hd => exact State.mayGo_of p p hd
  | settleLast p hd => exact State.mayGo_of p rfl hd
  | holdPwrdn p hd ho | holdReset p hd ho => exact State.mayGo_of p rfl (And.intro hd ho)

/-- Settles O24: a reset leads to IDLE, and every move is in the graph. -/
theorem stepsFollowThePhaseGraph : Obligations.StepsFollowThePhaseGraph := by
  intro s t hi h
  rcases hardReset_or_move h with ⟨hr, rfl⟩ | ⟨hr, m⟩
  · exact ⟨fun _ => rfl, fun low => absurd (hr.symm.trans low) (by decide)⟩
  · exact ⟨fun high => absurd (hr.symm.trans high) (by decide), fun _ => m.mayGo hi⟩

/-! ### The high clock -/

/-- Where the clock of a reachable state may be high (10_state.md R11; 70_reset_and_hazards.md R148). -/
theorem State.Inv.phase_of_high (hi : s.Inv) (high : s.sck = 1) :
    s.ph = .idle ∨ s.ph = .wait ∨ s.ph = .pdHold ∨ (s.ph = .bitH ∧ s.bitcnt = 24) ∨ s.ph = .bitL ∨ s.ph = .plsL := by
  have notLow : s.sck ≠ 0 := by simp [high]
  cases p : s.ph with
  | bitH =>
    obtain ⟨-, -, ⟨first, -⟩ | low⟩ := hi.inPhase p
    · exact .inr (.inr (.inr (.inl ⟨rfl, first⟩)))
    · exact absurd low notLow
  | plsH =>
    obtain ⟨-, -, -, low⟩ := hi.inPhase p
    exact absurd low notLow
  | dec | pdRise =>
    obtain ⟨-, low⟩ := hi.inPhase p
    exact absurd low notLow
  | settle =>
    obtain ⟨-, low, -⟩ := hi.inPhase p
    exact absurd low notLow
  | _ => simp

/-- BIT_L and PLS_L lower the clock (40_sequencer.md R75, R77). -/
theorem Move.sck_low (m : Move s t) (p : s.ph = .bitL ∨ s.ph = .plsL) : t.sck = 0 := by
  cases m with
  | bitLMore | bitLLast | plsLMore | plsLLast => rfl
  | _ q => simp [q] at p

/-- Settles O33: the phases left for a high clock are BIT_L and PLS_L, which lower it. -/
theorem highClockFallsAfterOneTick : Obligations.HighClockFallsAfterOneTick := by
  intro s t hi high notIdle notWait notHold notFirst h
  rcases hardReset_or_move h with ⟨-, rfl⟩ | ⟨-, m⟩
  · rfl
  · rcases hi.phase_of_high high with p | p | p | p | p
    exacts [absurd p notIdle, absurd p notWait, absurd p notHold, absurd p notFirst, m.sck_low p]

end Sys2Proof.Machine
end

section
/-! PROOFS. Runs of several ticks: what a run leaves of the inputs, the bits of a frame whatever SHR held, READ of a
presented sample, the wait without a limit, the timed-out SETGAIN, and RESET as one step (40_sequencer.md, 43_power.md). -/

namespace Sys2Proof.Machine

variable {s t u : State}

/-! ### The inputs and the parameters after a run -/

/-- `n` ticks keep the parameters and leave the inputs that were `n` ticks away. -/
theorem ticks_inputs {n : Nat} (h : ticks n s = .next t) :
    t.params = s.params ∧ (∀ k, t.dinAt k = s.dinAt (n + k)) ∧ ∀ k, t.hostAt k = s.hostAt (n + k) := by
  induction n generalizing s with
  | zero =>
    obtain rfl := Host.Outcome.next.inj h
    simp
  | succ n ih =>
    obtain ⟨x, hx, hn⟩ := exists_step_of_ticks_succ h
    obtain ⟨params, -, din, host⟩ := stepMovesInputsOnAndKeepsParameters s x hx
    obtain ⟨params', din', host'⟩ := ih hn
    refine ⟨params'.trans params, fun k => ?_, fun k => ?_⟩
    · rw [din', din, Nat.add_right_comm]
    · rw [host', host, Nat.add_right_comm]

/-- `rst` is low after a run for as long as it is beyond it. -/
theorem noRst_of_ticks {m n : Nat} (h : ticks m s = .next t) (hr : s.NoRst (m + n)) : t.NoRst n := by
  obtain ⟨-, -, host⟩ := ticks_inputs h
  exact fun j hj => by rw [host]; exact hr _ (Nat.add_lt_add_left hj m)

/-- After the first of `n + 1` ticks with `rst` low there are `n` more. -/
theorem noRst_of_step {n : Nat} (h : step s = .next t) (hr : s.NoRst (n + 1)) : t.NoRst n :=
  noRst_of_ticks (m := 1) ((ticks_succ h).trans ticks_zero) (by rwa [Nat.add_comm])

/-! ### The bits of a frame -/

/-- Two samples agree in their low `m` bits. -/
def AgreeLow (m : Nat) (v w : Sample) : Prop := ∀ j < m, v.getLsbD j = w.getLsbD j

theorem agreeLow_zero (v w : Sample) : AgreeLow 0 v w := fun _ h => absurd h (Nat.not_lt_zero _)

/-- Samples that agree in all 24 bits are equal. -/
theorem eq_of_agreeLow {v w : Sample} (h : AgreeLow 24 v w) : v = w :=
  BitVec.eq_of_getLsbD_eq fun j hj => h j hj

/-- One bit shifted into both adds one place of agreement (10_state.md R12). -/
theorem agreeLow_shiftIn {m : Nat} {v w : Sample} (h : AgreeLow m v w) (hm : m < 24) (d : Bit) :
    AgreeLow (m + 1) (shiftIn v d) (shiftIn w d) := by
  intro j hj
  rw [shiftIn_getLsbD v d j (by omega), shiftIn_getLsbD w d j (by omega)]
  split
  · rfl
  · exact h _ (by omega)

/-- `s` with its next data bit sampled and the clock low again, two ticks on (40_sequencer.md R74, R75). -/
def bitSampled (s : State) : State :=
  { s.advance.advance with sck := 0, shr := shiftIn s.shr (s.dinAt 1), bitcnt := s.bitcnt - 1, ph := .bitH }

/-- `s` with the clock raised for its next data bit, one tick on (40_sequencer.md R74). -/
def bitRaised (s : State) : State := { s.advance with sck := 1, ph := .bitL }

theorem bitRaised_dinAt : (bitRaised s).dinAt 0 = s.dinAt 1 := s.advance_dinAt 0

section
variable (p : s.ph = .bitH) (hr : s.NoRst 2)
include p hr

theorem step_bitRaised : step s = .next (bitRaised s) := step_bitH_eq p (hr 0 (by decide))

theorem bitRaised_noRst : ((bitRaised s).hostAt 0).rst = 0 := noRst_of_step (step_bitRaised p hr) hr 0 (by decide)

/-- BIT_H and BIT_L before the last bit (40_sequencer.md R74, R75). -/
theorem ticks_two_bitSampled (more : s.bitcnt ≠ 1) : ticks 2 s = .next (bitSampled s) := by
  have low := step_bitL_more (s := bitRaised s) rfl (bitRaised_noRst p hr) more
  rw [bitRaised_dinAt] at low
  exact (ticks_succ (step_bitRaised p hr)).trans ((ticks_succ low).trans ticks_zero)

/-- BIT_H and BIT_L of the last bit (40_sequencer.md R74, R75). -/
theorem ticks_two_bitSampled_last (last : s.bitcnt = 1) :
    ticks 2 s = .next { bitSampled s with plscnt := s.sel, ph := .plsH } := by
  have low := step_bitL_last (s := bitRaised s) rfl (bitRaised_noRst p hr) last
  rw [bitRaised_dinAt] at low
  exact (ticks_succ (step_bitRaised p hr)).trans ((ticks_succ low).trans ticks_zero)

end

/-- With `n + 1` bits still to shift in, two values of SHR that agree in the bits already shifted in lead to the same state
once the last bit is in (10_state.md R12). -/
theorem ticks_bits_congr {n : Nat} {v : Sample} (p : s.ph = .bitH) (hb : s.bitcnt.toNat = n + 1) (hn : n < 24)
    (hr : s.NoRst (2 * (n + 1))) (agree : AgreeLow (23 - n) v s.shr) :
    ticks (2 * (n + 1)) { s with shr := v } = ticks (2 * (n + 1)) s := by
  have shifted := agreeLow_shiftIn agree (by omega) (s.dinAt 1)
  induction n generalizing s v with
  | zero =>
    have last : s.bitcnt = 1 := BitVec.eq_of_toNat_eq hb
    rw [ticks_two_bitSampled_last p hr last, ticks_two_bitSampled_last (s := { s with shr := v }) p hr last]
    have same : shiftIn v (s.dinAt 1) = shiftIn s.shr (s.dinAt 1) := eq_of_agreeLow shifted
    exact congrArg (fun x => Host.Outcome.next { bitSampled s with shr := x, plscnt := s.sel, ph := .plsH }) same
  | succ n ih =>
    have more : s.bitcnt ≠ 1 := fun one => by simp [one] at hb
    have hr2 : s.NoRst 2 := State.noRst_mono hr (by omega)
    have first := ticks_two_bitSampled p hr2 more
    have first' := ticks_two_bitSampled (s := { s with shr := v }) p hr2 more
    rw [show 2 * (n + 1 + 1) = 2 + 2 * (n + 1) by omega] at hr ⊢
    rw [ticks_add first, ticks_add first']
    have counted : (bitSampled s).bitcnt.toNat = n + 1 := (toNat_sub_one (by omega)).trans (by omega)
    rw [show 23 - (n + 1) + 1 = 23 - n by omega] at shifted
    exact ih rfl counted (by omega) (noRst_of_ticks first hr) shifted (agreeLow_shiftIn shifted (by omega) _)

/-- Settles O37: before the first bit nothing need agree, and after 24 shifts the two samples are equal. -/
theorem oldShiftRegisterNeverShows : Obligations.OldShiftRegisterNeverShows := by
  intro s v p hb hr
  exact ticks_bits_congr (n := 23) p (by rw [hb]; rfl) (by omega) hr (agreeLow_zero _ _)

/-! ### READ of a presented sample -/

/-- The frame reads the sample the device presents (20_memory.md R43, 40_sequencer.md R83). -/
theorem shiftedIn_of_presents {v : Sample} (h : s.DevicePresents v) : shiftedIn s 24 = v := by
  obtain ⟨-, bits⟩ := h
  refine BitVec.eq_of_getLsbD_eq fun j hj => ?_
  have place : (shiftedIn s 24).extractLsb' j 1 = v.extractLsb' j 1 := by
    have read := shiftedIn_extractLsb' (s := s) (m := 24) (i := 24 - j) (by omega) (by omega) le_rfl
    rw [bits (24 - j) (by omega) (by omega)] at read
    simpa [Nat.sub_sub_self hj.le] using read
  simpa using congrArg (fun b : Bit => b.getLsbD 0) place

/-- Settles O39: the frame reads the presented sample, and DEC answers with its signed value. -/
theorem readDeliversThePresentedSample : Obligations.ReadDeliversThePresentedSample := by
  rintro s v _ rfl hs p ho present hr
  have frame := ticks_decAt p present.1 hs (State.noRst_mono hr (by omega))
  have answer := step_decAt_of_read (m := pulses s.sel) ho (hr _ (by omega))
  rw [shiftedIn_of_presents present] at answer
  rw [Nat.add_comm 50]
  exact ⟨_, ticks_succ_last frame answer, rfl, rfl, rfl, (sext32_toInt v).trans (decode24_eq_toInt v)⟩

/-! ### The ready wait without an end -/

/-- Settles O40: without a limit every number of high samples is allowed. -/
theorem unboundedWaitLastsWhileDinIsHigh : Obligations.UnboundedWaitLastsWhileDinIsHigh := by
  intro n s p unlimited high hr
  have waits : s.Waits n := ⟨p, by simp [Params.Allows, unlimited], high, hr⟩
  exact ⟨_, ticks_waitAt waits, by simp [State.busy, p], p, rfl, rfl, rfl, rfl, rfl⟩

/-! ### Levels of the clock over a run -/

/-- A run that shows one level after each of its ticks. -/
theorem sckTrace_of_level {n : Nat} {b : Bit} (run : ∀ m, 1 ≤ m → m ≤ n → ∃ u, ticks m s = .next u ∧ u.sck = b) :
    sckTrace n s = List.replicate n b := by
  induction n generalizing s with
  | zero => rfl
  | succ n ih =>
    obtain ⟨u, hu, level⟩ := run 1 le_rfl (by omega)
    obtain ⟨x, hx, same⟩ := exists_step_of_ticks_succ hu
    obtain rfl := Host.Outcome.next.inj same
    have rest := ih (s := x) fun m _ hm => by
      rw [← ticks_succ hx]
      exact run (m + 1) (by omega) (by omega)
    rw [sckTrace_succ hx, level, rest, List.replicate_succ]

theorem State.Waits.mono {m n : Nat} (h : s.Waits n) (hm : m ≤ n) : s.Waits m where
  waiting := h.waiting
  allowed l hl := (Nat.add_le_add_left hm _).trans_lt (h.allowed l hl)
  high j hj := h.high j (hj.trans_le hm)
  noRst := State.noRst_mono h.noRst hm

/-- Each tick of the settle delay, and the one that responds, keeps the level of the clock (40_sequencer.md R79). -/
theorem exists_ticks_settle_level {m n : Nat} (p : s.ph = .settle) (hn : s.dlycnt = n) (h1 : 1 ≤ n) (hr : s.NoRst n)
    (hm : m ≤ n) : ∃ u, ticks m s = .next u ∧ u.sck = s.sck := by
  rcases hm.lt_or_eq with during | rfl
  · exact ⟨_, ticks_settleAt p (by omega) (State.noRst_mono hr hm), rfl⟩
  · exact ⟨_, ticks_settleDone p hn h1 hr, rfl⟩

/-! ### SETGAIN timed out -/

/-- Settles O42: the wait of the newly armed selection runs to the limit; its end state is known whole, and GETGAIN's
table gives the selection's gain back. -/
theorem timedOutSetgainKeepsTheNewSelection : Obligations.TimedOutSetgainKeepsTheNewSelection := by
  intro s g x hg
  have armed : selOf g = some x := selOf_eq_some.mpr hg
  refine ⟨setgainAccepted s x, exec_setgain_of_supported armed, fun n h1 hl hh hr => ?_⟩
  obtain ⟨m, rfl⟩ := Nat.exists_eq_add_of_le' h1
  have allowed : s.params.Allows m := by simp [Params.Allows, hl]
  have hw := setgainAccepted_waits allowed (fun j hj => hh j (by omega)) (State.noRst_mono hr (by omega))
  have limit : (setgainAccepted s x).params.pollLimit = some ((setgainAccepted s x).pollcnt + m + 1) := by
    simpa [setgainAccepted] using hl
  have last := step_waitAt_timeout hw.waiting (hh m (by omega)) (hr m (by omega)) limit
  have done := ticks_succ_last (ticks_waitAt hw) last
  have levels : sckTrace (m + 1) (setgainAccepted s x) = List.replicate (m + 1) 0 := sckTrace_of_level fun j _ hj => by
    rcases hj.lt_or_eq with waits | rfl
    · exact ⟨_, ticks_waitAt (hw.mono (Nat.le_of_lt_succ waits)), rfl⟩
    · exact ⟨_, done, rfl⟩
  have answer := exec_getgain_of_armed (s := (waitAt (setgainAccepted s x) m).advance.raise .timeout)
    (selOf_eq_some_iff_gainOf.mp armed)
  exact ⟨_, done, rfl, rfl, rfl, rfl, rfl, rfl, rfl, rfl, levels, _, answer, rfl, rfl⟩

/-! ### RESET as one step -/

/-- The state in which RESET's settle delay begins, once the hold that starts in `s` is over (40_sequencer.md R81). -/
def holdSettling (s : State) : State := ((settleAt s (s.dlycnt - 1)).advance.pinWriteSck 0).beginSettle

/-- The last tick of RESET's hold starts the settle delay (40_sequencer.md R81). -/
theorem step_settleAt_holdSettling (p : s.ph = .pdHold) (ho : s.op = opReset) (h1 : 1 ≤ s.dlycnt)
    (hr : (s.hostAt (s.dlycnt - 1)).rst = 0) : step (settleAt s (s.dlycnt - 1)) = .next (holdSettling s) :=
  step_pdHold_last_of_reset (s := settleAt s (s.dlycnt - 1)) p (by simpa using hr) (Nat.sub_sub_self h1).le ho

/-- RESET's settle delay begins: the clock has risen in PD_RISE, and the hold is over (43_power.md R112). -/
def resetSettling (s : State) : State := holdSettling (holdStarted s)

/-- `m + 1` ticks after PD_RISE the hold has counted `m` (40_sequencer.md R80, R81). -/
theorem ticks_rise_hold {m : Nat} (p : s.ph = .pdRise) (hm : m < s.params.nPdhold) (hr : s.NoRst (m + 1)) :
    ticks (m + 1) s = .next (settleAt (holdStarted s) m) :=
  (ticks_succ (step_pdRise_eq p (hr 0 (Nat.succ_pos m)))).trans
    (ticks_hold (s := holdStarted s) rfl hm (holdStarted_noRst hr))

/-- The hold's last tick (40_sequencer.md R81). -/
theorem step_resetSettling (ho : s.op = opReset) (h1 : 1 ≤ s.params.nPdhold)
    (hr : (s.hostAt s.params.nPdhold).rst = 0) :
    step (settleAt (holdStarted s) (s.params.nPdhold - 1)) = .next (resetSettling s) :=
  step_settleAt_holdSettling (s := holdStarted s) rfl ho h1 (by simpa [Nat.sub_add_cancel h1] using hr)

section
variable (p : s.ph = .pdRise) (ho : s.op = opReset) (h1 : 1 ≤ s.params.nPdhold)
include p ho h1

theorem ticks_resetSettling (hr : s.NoRst (s.params.nPdhold + 1)) :
    ticks (s.params.nPdhold + 1) s = .next (resetSettling s) := by
  have held := ticks_rise_hold (m := s.params.nPdhold - 1) p (by omega) (State.noRst_mono hr (by omega))
  rw [Nat.sub_add_cancel h1] at held
  exact ticks_succ_last held (step_resetSettling ho h1 (hr _ (Nat.lt_succ_self _)))

section
variable (h1' : 1 ≤ s.params.nSettle) (hr : s.NoRst (s.params.nPdhold + s.params.nSettle + 1))
include h1' hr

/-- RESET responds at the end of its settle delay (43_power.md R112). -/
theorem ticks_resetDone :
    ticks (s.params.nPdhold + s.params.nSettle + 1) s = .next (settleDone (resetSettling s)) := by
  rw [Nat.add_right_comm] at hr ⊢
  have settling := ticks_resetSettling p ho h1 (State.noRst_mono hr (by omega))
  rw [ticks_add settling]
  exact ticks_settleDone rfl rfl h1' (noRst_of_ticks settling hr)

/-- The clock is high for the hold and low from its last tick on (43_power.md R112). -/
theorem sckTrace_resetDone :
    sckTrace (s.params.nPdhold + s.params.nSettle + 1) s =
      List.replicate s.params.nPdhold 1 ++ List.replicate (s.params.nSettle + 1) 0 := by
  have settling := ticks_resetSettling p ho h1 (State.noRst_mono hr (by omega))
  have hrSettle : (resetSettling s).NoRst s.params.nSettle :=
    noRst_of_ticks settling (by rwa [Nat.add_right_comm] at hr)
  have held {m : Nat} (hm : m < s.params.nPdhold) := ticks_rise_hold p hm (State.noRst_mono hr (by omega))
  have last := step_resetSettling ho h1 (hr _ (by omega))
  have heldAll := held (m := s.params.nPdhold - 1) (by omega)
  rw [Nat.sub_add_cancel h1] at heldAll
  rw [Nat.add_assoc, sckTrace_add heldAll]
  refine congrArg₂ (· ++ ·) (sckTrace_of_level fun m hm hle => ?high) (sckTrace_of_level fun m hm hle => ?low)
  case high =>
    obtain ⟨j, rfl⟩ := Nat.exists_eq_add_of_le' hm
    exact ⟨_, held hle, rfl⟩
  case low =>
    obtain ⟨j, rfl⟩ := Nat.exists_eq_add_of_le' hm
    rw [ticks_succ last]
    exact exists_ticks_settle_level rfl rfl h1' hrSettle (Nat.le_of_succ_le_succ hle)

end

end

/-- Settles O45: from the state that the accept tick leaves, PD_RISE, the hold and the settle delay follow, each of whose
states is known whole. -/
theorem resetCommandCyclesTheClock : Obligations.ResetCommandCyclesTheClock := by
  refine ⟨rfl, fun s => ⟨resetAccepted s, exec_reset_eq, rfl, rfl, fun h1 h1' hr => ?_⟩⟩
  refine ⟨sckTrace_resetDone rfl rfl h1 h1' hr, fun j hj => ?busy, ?done⟩
  case busy =>
    rcases Nat.lt_or_ge s.params.nPdhold j with settles | before
    · obtain ⟨m, rfl⟩ := Nat.exists_eq_add_of_le (Nat.succ_le_of_lt settles)
      have settling := ticks_resetSettling (s := resetAccepted s) rfl rfl h1
        (State.noRst_mono hr (show s.params.nPdhold + 1 ≤ _ by omega))
      have counted := ticks_settleAt (s := resetSettling (resetAccepted s)) (m := m) rfl
        (show m < s.params.nSettle by omega) (noRst_of_ticks settling (State.noRst_mono hr hj.le))
      exact ⟨_, (ticks_add settling).trans counted, rfl, rfl⟩
    · cases j with
      | zero => exact ⟨_, ticks_zero, rfl, rfl⟩
      | succ m =>
        exact ⟨_, ticks_rise_hold (s := resetAccepted s) rfl before (State.noRst_mono hr hj.le), rfl, rfl⟩
  case done =>
    exact ⟨_, ticks_resetDone rfl rfl h1 h1' hr, rfl, rfl, rfl, rfl, rfl, rfl, settleDone_dlycnt h1', rfl, rfl, rfl, rfl,
      rfl, rfl⟩

end Sys2Proof.Machine
end

section
/-! PROOFS. The times of a conforming instantiation, and the far-end device as observed over one tick and over whole
commands (20_memory.md, 70_reset_and_hazards.md; log 18). -/

namespace Sys2Proof.Machine

variable {v : DeviceView} {s t u : State} {q : Params}

/-! ### Times -/

theorem lastsAtLeast_mono {m n micros : Nat} (hmn : m ≤ n) (h : q.lastsAtLeast m micros) : q.lastsAtLeast n micros :=
  h.trans (Nat.mul_le_mul_right _ hmn)

/-- No more ticks than the longest frame has are under the power-down threshold (00_scope.md R4(c)). -/
theorem not_lastsAtLeast_of_frameFits {n : Nat} (fits : q.FrameFits) (hn : n ≤ 54) :
    ¬ q.lastsAtLeast n Config.powerDownMicros :=
  fun lasts => absurd (lastsAtLeast_mono hn lasts) (Nat.not_le.mpr fits)

/-- Settles O34: the longest frame has 54 ticks, and the hold and the settle delay are R4's. -/
theorem frameEndsUnderThePowerDownThreshold : Obligations.FrameEndsUnderThePowerDownThreshold := by
  intro q x conforms
  have pulsesLe : pulses x ≤ 3 := Nat.le_of_lt_succ x.isLt
  exact ⟨not_lastsAtLeast_of_frameFits conforms.frame (by omega),
    not_lastsAtLeast_of_frameFits conforms.frame (by omega), conforms.hold, conforms.settle⟩

/-- An instantiation that breaks one of the three times does not conform (00_scope.md R4). -/
theorem not_conforms_of_broken (broken : 60 * q.tickDen ≤ 54 * q.tickNum ∨ q.nPdhold * q.tickNum < 60 * q.tickDen ∨
    q.nSettle * q.tickNum < 400000 * q.tickDen) : ¬ q.Conforms := by
  intro conforms
  rcases broken with frame | hold | settle
  · exact absurd conforms.frame (Nat.not_lt.mpr frame)
  · exact absurd conforms.hold (Nat.not_le.mpr hold)
  · exact absurd conforms.settle (Nat.not_le.mpr settle)

/-- Settles O53: a run keeps the parameters, so an instantiation that does not conform never does. -/
theorem brokenTimingIsNeverTrusted : Obligations.BrokenTimingIsNeverTrusted := by
  intro n s u v x h broken
  obtain ⟨params, -⟩ := ticks_inputs h
  exact not_trusted_of_not_conforms (params ▸ not_conforms_of_broken broken)

/-! ### One tick observed -/

theorem asleepAfter_of_low (low : s.sck = 0) : v.asleepAfter s = false := by simp [DeviceView.asleepAfter, low]

theorem highAfter_of_low (low : s.sck = 0) : v.highAfter s = 0 := by simp [DeviceView.highAfter, low]

theorem highAfter_of_high (high : s.sck = 1) : v.highAfter s = v.high + 1 := by simp [DeviceView.highAfter, high]

/-- With the clock high the device sleeps on, or falls asleep once the threshold is over (20_memory.md R45). -/
theorem asleepAfter_of_high (high : s.sck = 1) : v.asleepAfter s =
    (v.asleep || decide (s.params.lastsAtLeast (v.high + 1) Config.powerDownMicros)) := by
  simp [DeviceView.asleepAfter, highAfter_of_high high, high]

/-- A device awake and in step takes the selection of a frame that ends, and keeps its own otherwise (20_memory.md R44). -/
theorem selAfter_of_awake (awake : v.asleepAfter s = false) (inStep : v.inStepAfter s t = true) :
    v.selAfter s t = if endsFrame s t then selectionSent v.edges else v.sel := by
  simp [DeviceView.selAfter, awake, inStep]

/-- Where no frame begins the observer counts the rising edges (20_memory.md R44). -/
theorem observe_edges_of_ne (p : s.ph ≠ .wait) :
    (v.observe s t).edges = v.edges + if s.sck = 0 ∧ t.sck = 1 then 1 else 0 := by
  simp [beginsFrame, p]

theorem endsFrame_of_ne (p : s.ph ≠ .plsL) : endsFrame s t = false := by simp [endsFrame, p]

/-- A lost device: out of step, its selection unknown, its settle delay begun anew, and none of its samples trusted. -/
theorem observe_of_loses (lost : v.loses s t = true) :
    (v.observe s t).inStep = false ∧ (v.observe s t).sel = none ∧ (v.observe s t).since = 0 ∧
      ∀ q x, ¬ (v.observe s t).Trusted q x := by
  have outOfStep : (v.observe s t).inStep = false := inStepAfter_of_loses lost
  exact ⟨outOfStep, selAfter_of_outOfStep outOfStep, by simp [unsettles_of_loses lost],
    fun _ _ => not_trusted_of_outOfStep outOfStep⟩

/-- Settles O50: each of the events is one of those that lose the device. -/
theorem undefinedEventsLoseTheDevice : Obligations.UndefinedEventsLoseTheDevice := by
  intro s t v x h event
  have lost : v.loses s t = true := by
    rw [loses_iff]
    rcases event with reset | ⟨p, n, high⟩ | ⟨p, n, slow⟩ | ⟨p, -, n⟩ | ⟨p, ⟨hr, hv, hd⟩, high⟩ | ⟨p, long⟩
    · exact .inl reset
    · exact .inr (.inl ⟨p, n, .inl high⟩)
    · exact .inr (.inl ⟨p, n, .inr (Nat.not_lt.mpr slow)⟩)
    · exact .inr (.inr (.inl ⟨p, n⟩))
    · rw [step_accepts p hr hv hd, exec_pwrdn_eq] at h
      obtain rfl := Host.Outcome.next.inj h
      exact .inr (.inr (.inr (.inl ⟨p, rfl, rfl, high⟩)))
    · have idleBus : s.usesBus = false := by rcases p with p | p <;> simp [State.usesBus, p]
      exact .inr (.inr (.inr (.inr (by rwa [idleAfter_of_idleBus idleBus]))))
  obtain ⟨inStep, sel, since, untrusted⟩ := observe_of_loses lost
  exact ⟨inStep, sel, since, untrusted _ x⟩

theorem endsReset_iff :
    endsReset s t = true ↔ (s.hostAt 0).rst = 0 ∧ s.ph = .settle ∧ s.op = opReset ∧ t.ph = .idle := by
  simp [endsReset, and_assoc]

/-- A device out of step comes into step only as a RESET command ends (43_power.md R112). -/
theorem endsReset_of_recovers (lost : v.inStep = false) (h : (v.observe s t).inStep = true) : endsReset s t = true := by
  obtain ⟨-, ends | known⟩ := inStepAfter_iff.mp h
  · exact ends
  · exact absurd (known.symm.trans lost) (by decide)

/-- Settles O51: the settle delay that ends for RESET ends with its response. -/
theorem onlyTheResetCommandRecoversTheDevice : Obligations.OnlyTheResetCommandRecoversTheDevice := by
  intro s t v h lost
  refine ⟨fun recovered => ?_, selAfter_of_outOfStep⟩
  obtain ⟨hr, p, ho, n⟩ := endsReset_iff.mp (endsReset_of_recovers lost recovered)
  refine ⟨hr, p, ho, n, ?_⟩
  rcases (move_of_step h hr).response_cases with response | ⟨-, -, ⟨q, -⟩ | ⟨q, -⟩ | ⟨-, busy, -⟩⟩
  · exact response.valid
  · simp [p] at q
  · simp [p] at q
  · exact absurd n busy

/-- Outside SETTLE no tick brings a device into step (43_power.md R112). -/
theorem observe_outOfStep (lost : v.inStep = false) (p : s.ph ≠ .settle) : (v.observe s t).inStep = false := by
  rw [← Bool.not_eq_true]
  intro recovered
  obtain ⟨-, q, -⟩ := endsReset_iff.mp (endsReset_of_recovers lost recovered)
  exact p q

section
variable (hr : (s.hostAt 0).rst = 0)
include hr

/-- A tick of a frame, of its settle delay or of RESET does not lose the device unless `rst` is high
(70_reset_and_hazards.md R141 to R148). -/
theorem loses_of_usesBus (bus : s.usesBus = true) : v.loses s t = false := by
  rw [← Bool.not_eq_true, loses_iff]
  rintro (reset | ⟨p, -⟩ | ⟨p, -⟩ | ⟨p, -⟩ | long)
  · exact absurd (reset.symm.trans hr) (by decide)
  · simp [State.usesBus, p] at bus
  · simp [State.usesBus, p] at bus
  · simp [State.usesBus, p] at bus
  · rw [idleAfter_of_usesBus bus] at long
    exact not_idleTooLong_zero _ long

theorem observe_inStep_of_usesBus (bus : s.usesBus = true) (known : v.inStep = true) : (v.observe s t).inStep = true :=
  inStepAfter_iff.mpr ⟨loses_of_usesBus hr bus, .inr known⟩

/-- A tick of the bus in use with the clock low, in which no frame ends: a device in step keeps its selection
(20_memory.md R44). -/
theorem observe_sel_of_low (bus : s.usesBus = true) (low : s.sck = 0) (p : s.ph ≠ .plsL) (known : v.inStep = true) :
    (v.observe s t).sel = v.sel := by
  refine (selAfter_of_awake (asleepAfter_of_low low) (observe_inStep_of_usesBus hr bus known)).trans (if_neg ?_)
  simp [endsFrame_of_ne p]

/-- A tick of the bus in use with the clock low, in which no frame ends, counts for the settle delay (20_memory.md R46). -/
theorem observe_since_of_low (bus : s.usesBus = true) (low : s.sck = 0) (p : s.ph ≠ .plsL) :
    (v.observe s t).since = v.since + 1 := by
  simp [DeviceView.unsettles, asleepAfter_of_low low, loses_of_usesBus hr bus, endsFrame_of_ne p]

/-- A tick that leads to the ready wait leaves a device in step as it is, unless the bus has been idle too long
(70_reset_and_hazards.md R146). -/
theorem observe_inStep_of_wait (n : t.ph = .wait) (used : ¬ s.params.IdleTooLong (v.idleAfter s)) (known : v.inStep = true) :
    (v.observe s t).inStep = true := by
  refine inStepAfter_iff.mpr ⟨?_, .inr known⟩
  rw [← Bool.not_eq_true, loses_iff]
  rintro (reset | ⟨-, n', -⟩ | ⟨-, n'⟩ | ⟨-, n', -⟩ | long)
  · exact absurd (reset.symm.trans hr) (by decide)
  · simp [n] at n'
  · simp [n] at n'
  · simp [n] at n'
  · exact used long

/-- The WAIT tick that begins a frame in time leaves a device in step as it is, if the clock is low and fast enough
(70_reset_and_hazards.md R144, R146, R148). -/
theorem observe_inStep_of_beginsFrame (n : t.ph = .bitH) (low : s.sck = 0) (fits : s.params.FrameFits)
    (used : ¬ s.params.IdleTooLong (v.idleAfter s)) (known : v.inStep = true) : (v.observe s t).inStep = true := by
  refine inStepAfter_iff.mpr ⟨?_, .inr known⟩
  rw [← Bool.not_eq_true, loses_iff]
  rintro (reset | ⟨-, -, high | slow⟩ | ⟨-, n'⟩ | ⟨-, n', -⟩ | long)
  · exact absurd (reset.symm.trans hr) (by decide)
  · exact absurd (high.symm.trans low) (by decide)
  · exact slow fits
  · simp [n] at n'
  · simp [n] at n'
  · exact used long

end

/-! ### Runs observed -/

/-- The tick between two states of a run. -/
theorem step_of_ticks {n : Nat} (hn : ticks n s = .next t) (hu : ticks (n + 1) s = .next u) : step t = .next u := by
  rw [ticks_add hn] at hu
  obtain ⟨x, hx, same⟩ := exists_step_of_ticks_succ hu
  obtain rfl := Host.Outcome.next.inj same
  exact hx

theorem observeTicks_zero : observeTicks 0 s v = v := rfl

/-- Observing a run with one more tick at its end. -/
theorem observeTicks_succ_last {n : Nat} (hn : ticks n s = .next t) (hu : ticks (n + 1) s = .next u) :
    observeTicks (n + 1) s v = (observeTicks n s v).observe t u := by
  rw [observeTicks_add hn, observeTicks_succ (step_of_ticks hn hu)]
  rfl

/-- Idle ticks without a command are ticks of idle bus (70_reset_and_hazards.md R146). -/
theorem observeTicks_idle_quiet {n : Nat} (p : s.ph = .idle)
    (quiet : ∀ j, j < n → (s.hostAt j).rst = 0 ∧ (s.hostAt j).cmdValid = 0) :
    (observeTicks n s v).idle = v.idle + n := by
  induction n with
  | zero => rfl
  | succ n ih =>
    have quiet' : ∀ j, j < n → (s.hostAt j).rst = 0 ∧ (s.hostAt j).cmdValid = 0 := fun j hj => quiet j (by omega)
    have idleBus : (s.after n).usesBus = false := by simp [State.usesBus, State.after, p]
    rw [observeTicks_succ_last (ticks_idle_quiet p quiet') (ticks_idle_quiet p quiet), observe_idle,
      idleAfter_of_idleBus idleBus, ih quiet', Nat.add_assoc]

/-- Settles O49: the idle ticks change no register and are all counted as idle bus. -/
theorem tooLongIdleBusIsNotTrusted : Obligations.TooLongIdleBusIsNotTrusted := by
  intro n s v x p quiet long
  refine ⟨_, ticks_idle_quiet p quiet, rfl, fun trusted => trusted.inUse ?_⟩
  rw [observeTicks_idle_quiet p quiet]
  exact long

/-! ### PWRDN observed -/

/-- During the hold the observer counts the ticks of the high clock (20_memory.md R45). -/
theorem observeTicks_hold_high {m : Nat} (p : s.ph = .pdHold) (high : s.sck = 1) (hm : m < s.dlycnt) (hr : s.NoRst m) :
    (observeTicks m s v).high = v.high + m := by
  induction m with
  | zero => rfl
  | succ m ih =>
    have hr' := State.noRst_mono hr (Nat.le_succ m)
    have hm' := Nat.lt_of_succ_lt hm
    rw [observeTicks_succ_last (ticks_hold p hm' hr') (ticks_hold p hm hr), observe_high,
      highAfter_of_high (s := settleAt s m) high, ih hm' hr', Nat.add_assoc]

/-- A hold as long as the power-down threshold puts the device to sleep (20_memory.md R45). -/
theorem observeTicks_hold_asleep (p : s.ph = .pdHold) (high : s.sck = 1) (ho : s.op = opPwrdn) (h1 : 1 ≤ s.dlycnt)
    (hr : s.NoRst s.dlycnt) (lasts : s.params.lastsAtLeast s.dlycnt Config.powerDownMicros) :
    (observeTicks s.dlycnt s v).asleep = true := by
  have done := ticks_hold_done_of_pwrdn p ho h1 hr
  obtain ⟨m, hm⟩ := Nat.exists_eq_add_of_le' h1
  rw [hm] at done hr lasts ⊢
  have hr' := State.noRst_mono hr (Nat.le_succ m)
  rw [observeTicks_succ_last (ticks_hold p (by omega) hr') done, observe_asleep,
    asleepAfter_of_high (s := settleAt s m) high, observeTicks_hold_high p high (by omega) hr', Bool.or_eq_true]
  exact .inr (decide_eq_true (lastsAtLeast_mono (by omega) lasts))

/-- Settles O46: the accept tick and PD_RISE lead to the hold, which lasts the power-down threshold. -/
theorem pwrdnPutsTheDeviceToSleep : Obligations.PwrdnPutsTheDeviceToSleep := by
  rintro s v p ⟨hr0, hv, hd⟩ conforms hr
  have accept : step s = .next (pwrdnAccepted s.advance) := (step_accepts p hr0 hv hd).trans exec_pwrdn_eq
  have hr1 := noRst_of_step accept hr
  have rise := step_pdRise_eq (s := pwrdnAccepted s.advance) rfl (hr1 0 (Nat.succ_pos _))
  have h1 : 1 ≤ s.params.nPdhold := conforms.counts.hold
  have done := ticks_hold_done_of_pwrdn (s := holdStarted (pwrdnAccepted s.advance)) rfl rfl h1 (holdStarted_noRst hr1)
  refine ⟨_, (ticks_succ accept).trans ((ticks_succ rise).trans done), rfl, rfl, rfl, rfl, ?_⟩
  rw [observeTicks_succ accept, observeTicks_succ rise]
  exact observeTicks_hold_asleep rfl rfl rfl h1 (holdStarted_noRst hr1) conforms.hold

/-! ### The settle delay observed -/

section
variable (p : s.ph = .settle) (bus : s.usesBus = true) (low : s.sck = 0)
include p bus low

/-- Ticks of SETGAIN's or RESET's settle delay count for the device's, and a device in step keeps its selection
(20_memory.md R44, R46). -/
theorem observeTicks_settleAt {m : Nat} (hm : m < s.dlycnt) (hr : s.NoRst m) :
    (observeTicks m s v).since = v.since + m ∧
      (v.inStep = true → (observeTicks m s v).inStep = true ∧ (observeTicks m s v).sel = v.sel) := by
  induction m with
  | zero => exact ⟨rfl, fun known => ⟨known, rfl⟩⟩
  | succ m ih =>
    have hr' := State.noRst_mono hr (Nat.le_succ m)
    obtain ⟨since, kept⟩ := ih (by omega) hr'
    have hr0 : ((settleAt s m).hostAt 0).rst = 0 := by simpa using hr m (Nat.lt_succ_self m)
    have notPulse : (settleAt s m).ph ≠ .plsL := by simp [settleAt, State.after, p]
    rw [observeTicks_succ_last (ticks_settleAt p (by omega) hr') (ticks_settleAt p hm hr)]
    refine ⟨?_, fun known => ?_⟩
    · rw [observe_since_of_low (s := settleAt s m) hr0 bus low notPulse, since, Nat.add_assoc]
    · obtain ⟨inStep, sel⟩ := kept known
      exact ⟨observe_inStep_of_usesBus (s := settleAt s m) hr0 bus inStep,
        (observe_sel_of_low (s := settleAt s m) hr0 bus low notPulse inStep).trans sel⟩

/-- The whole settle delay of SETGAIN or RESET: the device is awake and has settled for as long, the bus counts as used,
RESET brings the device into step, and a device in step keeps its selection (20_memory.md R44, R46, R47). -/
theorem observeTicks_settleDone {n : Nat} (hn : s.dlycnt = n) (h1 : 1 ≤ n) (hr : s.NoRst n) :
    (observeTicks n s v).since = v.since + n ∧ (observeTicks n s v).asleep = false ∧ (observeTicks n s v).idle = 0 ∧
      (s.op = opReset → (observeTicks n s v).inStep = true) ∧
      (v.inStep = true → (observeTicks n s v).inStep = true ∧ (observeTicks n s v).sel = v.sel) := by
  have done := ticks_settleDone p hn h1 hr
  obtain ⟨m, rfl⟩ := Nat.exists_eq_add_of_le' h1
  have hr' := State.noRst_mono hr (Nat.le_succ m)
  have hr0 : ((settleAt s m).hostAt 0).rst = 0 := by simpa using hr m (Nat.lt_succ_self m)
  have notPulse : (settleAt s m).ph ≠ .plsL := by simp [settleAt, State.after, p]
  obtain ⟨since, kept⟩ := observeTicks_settleAt (v := v) p bus low (m := m) (by omega) hr'
  rw [observeTicks_succ_last (ticks_settleAt p (by omega) hr') done]
  refine ⟨?_, asleepAfter_of_low (s := settleAt s m) low, idleAfter_of_usesBus (s := settleAt s m) bus,
    fun reset => ?_, fun known => ?_⟩
  · rw [observe_since_of_low (s := settleAt s m) hr0 bus low notPulse, since, Nat.add_assoc]
  · have ends : endsReset (settleAt s m) (settleDone s) = true := endsReset_iff.mpr ⟨hr0, p, reset, rfl⟩
    exact inStepAfter_iff.mpr ⟨loses_of_usesBus (s := settleAt s m) hr0 bus, .inl ends⟩
  · obtain ⟨inStep, sel⟩ := kept known
    exact ⟨observe_inStep_of_usesBus (s := settleAt s m) hr0 bus inStep,
      (observe_sel_of_low (s := settleAt s m) hr0 bus low notPulse inStep).trans sel⟩

end

/-- A device that has settled for the whole delay of a conforming instantiation is settled (20_memory.md R46). -/
theorem settled_of_since (conforms : q.Conforms) (h : q.nSettle ≤ v.since) : v.Settled q :=
  lastsAtLeast_mono h conforms.settle

theorem usesBus_of_settle (p : s.ph = .settle) (ho : s.op = opSetgain ∨ s.op = opReset) : s.usesBus = true := by
  simpa [State.usesBus, p] using ho

/-- From PD_RISE to its response RESET recovers the device, whatever the view at its beginning (43_power.md R112). -/
theorem observeTicks_resetDone (p : s.ph = .pdRise) (ho : s.op = opReset) (conforms : s.params.Conforms)
    (hr : s.NoRst (s.params.nPdhold + s.params.nSettle + 1)) :
    (observeTicks (s.params.nPdhold + s.params.nSettle + 1) s v).inStep = true ∧
      (observeTicks (s.params.nPdhold + s.params.nSettle + 1) s v).asleep = false ∧
      (observeTicks (s.params.nPdhold + s.params.nSettle + 1) s v).idle = 0 ∧
      (observeTicks (s.params.nPdhold + s.params.nSettle + 1) s v).Settled s.params := by
  rw [Nat.add_right_comm] at hr ⊢
  have settling := ticks_resetSettling p ho conforms.counts.hold (State.noRst_mono hr (Nat.le_add_right _ _))
  rw [observeTicks_add settling]
  obtain ⟨since, awake, idle, inStep, -⟩ := observeTicks_settleDone (v := observeTicks (s.params.nPdhold + 1) s v)
    (s := resetSettling s) rfl (usesBus_of_settle rfl (.inr ho)) rfl rfl conforms.counts.settle (noRst_of_ticks settling hr)
  exact ⟨inStep ho, awake, idle, settled_of_since conforms (since ▸ Nat.le_add_left _ _)⟩

/-- Settles O47: the accept tick leads to PD_RISE, and from there RESET recovers the device. -/
theorem resetCommandRecoversTheDevice : Obligations.ResetCommandRecoversTheDevice := by
  rintro s v p ⟨hr0, hv, hd⟩ conforms hr
  have accept : step s = .next (resetAccepted s.advance) := (step_accepts p hr0 hv hd).trans exec_reset_eq
  have hr1 := noRst_of_step accept hr
  have done := ticks_resetDone (s := resetAccepted s.advance) rfl rfl conforms.counts.hold conforms.counts.settle hr1
  refine ⟨_, (ticks_succ accept).trans done, rfl, rfl, rfl, rfl, ?_⟩
  rw [observeTicks_succ accept]
  exact observeTicks_resetDone (s := resetAccepted s.advance) rfl rfl conforms hr1

/-! ### A frame observed -/

/-- The ready wait leaves a device in step as it is and is idle bus (70_reset_and_hazards.md R146). -/
theorem observeTicks_wait {m : Nat} (h : s.Waits m) (used : ¬ s.params.IdleTooLong (v.idle + m)) (known : v.inStep = true) :
    (observeTicks m s v).inStep = true ∧ (observeTicks m s v).idle = v.idle + m := by
  induction m with
  | zero => exact ⟨known, rfl⟩
  | succ m ih =>
    obtain ⟨inStep, idle⟩ := ih h.of_succ fun long => used (idleTooLong_mono (by omega) long)
    have idleBus : (waitAt s m).usesBus = false := by simp [State.usesBus, h.waiting]
    have more := idleAfter_of_idleBus (v := observeTicks m s v) idleBus
    rw [idle, Nat.add_assoc] at more
    rw [observeTicks_succ_last (ticks_waitAt h.of_succ) (ticks_waitAt h)]
    refine ⟨observe_inStep_of_wait ?_ h.waiting (by rwa [more]) inStep, more⟩
    simpa using h.noRst m (Nat.lt_succ_self m)

theorem usesBus_of_inFrame (h : s.ph.inFrame = true) : s.usesBus = true := by
  cases p : s.ph <;> simp [p, Phase.inFrame] at h <;> simp [State.usesBus, p]

/-- Before DEC the phases after the ready tick are a frame's (20_memory.md R34). -/
theorem framePhase_inFrame {k j : Nat} (hj : j ≤ 48 + 2 * k) : (framePhase k j).inFrame = true := by
  rw [framePhase, if_neg (by omega)]
  split <;> split <;> rfl

/-- A frame's pulses send the selection that asks for them (20_memory.md R44). -/
theorem selectionSent_pulses {x : BitVec 2} (h : x ≠ 0) : selectionSent (24 + pulses x) = some x := by
  revert x; decide

section
variable (p : s.ph = .wait) (hd : s.dinAt 0 = 0) (hs : s.sel ≠ 0) (hr : s.NoRst (49 + 2 * pulses s.sel))
include p hd hs hr

section
variable (low : s.sck = 0) (fits : s.params.FrameFits) (used : ¬ s.params.IdleTooLong (v.idle + 1))
  (known : v.inStep = true)
include low fits used known

/-- During a frame begun in time with the clock low and fast enough, a device in step stays so, each pulse's rising edge is
counted, and while the clock is high the device has only just seen it rise (20_memory.md R44, R45). -/
theorem observeTicks_frame {j : Nat} (h1 : 1 ≤ j) (hj : j ≤ 48 + 2 * pulses s.sel) :
    (observeTicks j s v).inStep = true ∧ (observeTicks j s v).edges = j / 2 ∧
      (j % 2 = 0 → (observeTicks j s v).asleep = false ∧ (observeTicks j s v).high = 0) := by
  have frame := frameLemma s _ rfl hs p hd hr
  induction j, h1 using Nat.le_induction with
  | base =>
    obtain ⟨u, hu, phase, -⟩ := frame 1 le_rfl (by omega)
    have n : u.ph = .bitH := phase.trans (framePhase_bitH (m := 0) (by omega))
    have idle : v.idleAfter s = v.idle + 1 := idleAfter_of_idleBus (by simp [State.usesBus, p])
    rw [observeTicks_succ_last ticks_zero hu, observeTicks_zero]
    refine ⟨observe_inStep_of_beginsFrame (hr 0 (by omega)) n low fits (by rwa [idle]) known, ?_, by simp⟩
    simp [beginsFrame, p, n]
  | succ j h1 ih =>
    obtain ⟨t, ht, phase, level, -⟩ := frame j h1 (by omega)
    obtain ⟨u, hu, -, nextLevel, -⟩ := frame (j + 1) (by omega) (by omega)
    obtain ⟨inStep, edges, -⟩ := ih (by omega)
    obtain ⟨-, -, host⟩ := ticks_inputs ht
    have inFrame : t.ph.inFrame = true := phase ▸ framePhase_inFrame (by omega)
    have notWait : t.ph ≠ .wait := fun wait => by simp [wait, Phase.inFrame] at inFrame
    have hr0 : (t.hostAt 0).rst = 0 := by rw [host]; exact hr _ (by omega)
    rw [observeTicks_succ_last ht hu]
    refine ⟨observe_inStep_of_usesBus hr0 (usesBus_of_inFrame inFrame) inStep, ?_⟩
    rcases Nat.mod_two_eq_zero_or_one j with even | odd
    · rw [if_neg (by omega), if_pos even] at level
      refine ⟨?_, by omega⟩
      rw [observe_edges_of_ne notWait, edges, if_neg (by simp [level])]
      omega
    · have tLow : t.sck = 0 := by simp [level, low, odd]
      rw [if_neg (by omega), if_pos (by omega)] at nextLevel
      refine ⟨?_, fun _ => ⟨asleepAfter_of_low tLow, highAfter_of_low tLow⟩⟩
      rw [observe_edges_of_ne notWait, edges, if_pos ⟨tLow, nextLevel⟩]
      omega

/-- The whole frame sends a device in step the block's selection (20_memory.md R44). -/
theorem observeTicks_frame_end :
    (observeTicks (49 + 2 * pulses s.sel) s v).inStep = true ∧
      (observeTicks (49 + 2 * pulses s.sel) s v).sel = some s.sel := by
  have frame := frameLemma s _ rfl hs p hd hr
  obtain ⟨m, hm⟩ := Nat.exists_eq_add_of_le' (pulses_bounds hs).1
  obtain ⟨t, ht, phase, level, -⟩ := frame (48 + 2 * pulses s.sel) (by omega) (by omega)
  obtain ⟨u, hu, nextPhase, -⟩ := frame (49 + 2 * pulses s.sel) (by omega) le_rfl
  obtain ⟨inStep, edges, rose⟩ := observeTicks_frame p hd hs hr low fits used known
    (j := 48 + 2 * pulses s.sel) (by omega) le_rfl
  obtain ⟨awake, high⟩ := rose (by omega)
  obtain ⟨params, -, host⟩ := ticks_inputs ht
  have hr0 : (t.hostAt 0).rst = 0 := by rw [host]; exact hr _ (by omega)
  have lastPulse : t.ph = .plsL := by
    rw [phase, show 48 + 2 * pulses s.sel = 2 * m + 50 by omega]
    exact framePhase_plsL
  have ended : u.ph = .dec := by rw [nextPhase, Nat.add_comm]; exact framePhase_dec
  have tHigh : t.sck = 1 := by rw [level, if_neg (by omega), if_pos (by omega)]
  have inStepAfter := observe_inStep_of_usesBus (v := observeTicks (48 + 2 * pulses s.sel) s v) (t := u) hr0
    (by simp [State.usesBus, lastPulse]) inStep
  have awakeAfter : (observeTicks (48 + 2 * pulses s.sel) s v).asleepAfter t = false := by
    rw [asleepAfter_of_high tHigh, awake, high, params]
    exact decide_eq_false (not_lastsAtLeast_of_frameFits fits (by omega))
  have next : 49 + 2 * pulses s.sel = 48 + 2 * pulses s.sel + 1 := by omega
  rw [next] at hu ⊢
  rw [observeTicks_succ_last ht hu]
  refine ⟨inStepAfter, (selAfter_of_awake awakeAfter inStepAfter).trans ?_⟩
  rw [edges, if_pos (by simp [endsFrame, lastPulse, ended]), show (48 + 2 * pulses s.sel) / 2 = 24 + pulses s.sel by omega]
  exact selectionSent_pulses hs

end

/-- A frame begun with the clock high loses the device, and no tick of the frame mends it (70_reset_and_hazards.md
R148). -/
theorem observeTicks_frame_outOfStep (high : s.sck = 1) {j : Nat} (h1 : 1 ≤ j) (hj : j ≤ 49 + 2 * pulses s.sel) :
    (observeTicks j s v).inStep = false := by
  have frame := frameLemma s _ rfl hs p hd hr
  induction j, h1 using Nat.le_induction with
  | base =>
    obtain ⟨u, hu, phase, -⟩ := frame 1 le_rfl (by omega)
    have n : u.ph = .bitH := phase.trans (framePhase_bitH (m := 0) (by omega))
    rw [observeTicks_succ_last ticks_zero hu, observeTicks_zero]
    exact inStepAfter_of_loses (loses_iff.mpr (.inr (.inl ⟨p, n, .inl high⟩)))
  | succ j h1 ih =>
    obtain ⟨t, ht, phase, -⟩ := frame j h1 (by omega)
    obtain ⟨u, hu, -⟩ := frame (j + 1) (by omega) (by omega)
    have inFrame : t.ph.inFrame = true := phase ▸ framePhase_inFrame (by omega)
    have notSettle : t.ph ≠ .settle := fun settle => by simp [settle, Phase.inFrame] at inFrame
    rw [observeTicks_succ_last ht hu]
    exact observe_outOfStep (ih (by omega)) notSettle

end

/-- A frame that READ begins with the clock high leaves the device out of step when READ responds
(70_reset_and_hazards.md R148). -/
theorem observeTicks_readDone_of_high {p : Nat} (ho : s.op = opRead) (hw : s.Waits p) (hs : s.sel ≠ 0)
    (hd : s.dinAt p = 0) (hr : s.NoRst (p + 2 * pulses s.sel + 50)) (high : s.sck = 1) :
    (observeTicks (p + 2 * pulses s.sel + 50) s v).inStep = false ∧
      (observeTicks (p + 2 * pulses s.sel + 50) s v).sel = none := by
  have hr' := State.noRst_mono hr (Nat.le_succ _)
  have hrFrame : (waitAt s p).NoRst (49 + 2 * pulses s.sel) := waitAt_noRst (by rwa [Nat.add_comm 49, ← Nat.add_assoc])
  have framed : (observeTicks (p + 2 * pulses s.sel + 49) s v).inStep = false := by
    rw [Nat.add_assoc, Nat.add_comm _ 49, observeTicks_add (ticks_waitAt hw)]
    exact observeTicks_frame_outOfStep (s := waitAt s p) hw.waiting (by simpa using hd) hs hrFrame high (by omega) le_rfl
  rw [observeTicks_succ_last (ticks_wait_frame hw hs hd hr') (ticks_readDone ho hw hs hd hr)]
  have outOfStep := observe_outOfStep (t := readDone s p) (s := decAt (waitAt s p) (pulses s.sel)) framed Phase.noConfusion
  exact ⟨outOfStep, selAfter_of_outOfStep outOfStep⟩

/-- Settles O52: the frame loses the device, and neither it nor the tick that responds is the end of a RESET command. -/
theorem readWithClockHighAnswersOkUntrusted : Obligations.ReadWithClockHighAnswersOkUntrusted := by
  rintro s v x p _ ⟨idle, ⟨hr0, hv, hd⟩, high⟩ rfl hs allowed hh ready hr
  have accept : step s = .next (readAccepted s.advance) := (step_accepts idle hr0 hv hd).trans exec_read_eq
  obtain ⟨-, -, din, -⟩ := stepMovesInputsOnAndKeepsParameters _ _ accept
  have hr1 := noRst_of_step accept hr
  have hw : (readAccepted s.advance).Waits p :=
    readAccepted_waits allowed (fun j hj => (din j).trans (hh j hj)) (State.noRst_mono hr1 (by omega))
  have ready' : (readAccepted s.advance).dinAt p = 0 := (din p).trans ready
  have done := ticks_readDone rfl hw hs ready' hr1
  obtain ⟨outOfStep, unknown⟩ := observeTicks_readDone_of_high (v := v.observe s (readAccepted s.advance))
    rfl hw hs ready' hr1 high
  refine ⟨_, (ticks_succ accept).trans done, rfl, rfl, rfl, rfl, ?_⟩
  rw [observeTicks_succ accept]
  exact ⟨outOfStep, unknown, not_trusted_of_outOfStep outOfStep⟩

/-! ### SETGAIN observed -/

section
variable {p : Nat} (ho : s.op = opSetgain) (hw : s.Waits p) (hs : s.sel ≠ 0) (hd : s.dinAt p = 0)
  (low : s.sck = 0) (fits : s.params.FrameFits) (used : ¬ s.params.IdleTooLong (v.idle + p + 1)) (known : v.inStep = true)
include ho hw hs hd low fits used known

/-- After SETGAIN's frame a device in step has the newly armed selection (20_memory.md R44). -/
theorem observeTicks_frameSettling (hr : s.NoRst (p + 2 * pulses s.sel + 50)) :
    (observeTicks (p + 2 * pulses s.sel + 50) s v).inStep = true ∧
      (observeTicks (p + 2 * pulses s.sel + 50) s v).sel = some s.sel := by
  have hr' := State.noRst_mono hr (Nat.le_succ _)
  have hrFrame : (waitAt s p).NoRst (49 + 2 * pulses s.sel) := waitAt_noRst (by rwa [Nat.add_comm 49, ← Nat.add_assoc])
  have hr0 : ((decAt (waitAt s p) (pulses s.sel)).hostAt 0).rst = 0 := by
    simpa [Nat.add_assoc] using hr (p + 2 * pulses s.sel + 49) (Nat.lt_succ_self _)
  obtain ⟨waited, idle⟩ := observeTicks_wait hw (fun long => used (idleTooLong_mono (Nat.le_succ _) long)) known
  obtain ⟨inStep, sel⟩ := observeTicks_frame_end (s := waitAt s p) hw.waiting (by simpa using hd) hs hrFrame low fits
    (by rwa [idle]) waited
  have dec := ticks_wait_frame hw hs hd hr'
  rw [observeTicks_succ_last dec (ticks_frameSettling ho hw hs hd hr), Nat.add_assoc, Nat.add_comm _ 49,
    observeTicks_add (ticks_waitAt hw)]
  exact ⟨observe_inStep_of_usesBus hr0 rfl inStep, (observe_sel_of_low hr0 rfl rfl Phase.noConfusion inStep).trans sel⟩

/-- When SETGAIN responds a device in step is awake and settled, has the armed selection, and the bus counts as used
(20_memory.md R44, R46, R47). -/
theorem observeTicks_setgainDone (conforms : s.params.Conforms)
    (hr : s.NoRst (p + 2 * pulses s.sel + 50 + s.params.nSettle)) :
    (observeTicks (p + 2 * pulses s.sel + 50 + s.params.nSettle) s v).Trusted s.params s.sel := by
  have hr' := State.noRst_mono hr (Nat.le_add_right _ s.params.nSettle)
  obtain ⟨inStep, sel⟩ := observeTicks_frameSettling ho hw hs hd low fits used known hr'
  have bus : (frameSettling s p).usesBus = true := usesBus_of_settle rfl (.inl ho)
  obtain ⟨since, awake, idle, -, kept⟩ := observeTicks_settleDone
    (v := observeTicks (p + 2 * pulses s.sel + 50) s v) (s := frameSettling s p) rfl bus rfl
    (frameSettling_dlycnt p) conforms.counts.settle (frameSettling_noRst hr)
  obtain ⟨inStep', sel'⟩ := kept inStep
  rw [observeTicks_add (ticks_frameSettling ho hw hs hd hr')]
  exact ⟨conforms, inStep', awake, settled_of_since conforms (since ▸ Nat.le_add_left _ _),
    idle ▸ not_idleTooLong_zero _, sel'.trans sel⟩

end

/-- Settles O48: the accept tick leaves the device in step, and the frame and the settle delay do the rest. -/
theorem setgainMakesSamplesTrusted : Obligations.SetgainMakesSamplesTrusted := by
  rintro s v g x p _ idle ⟨hr0, hv, hd⟩ hg rfl conforms allowed hh ready hr known used
  rw [show p + 2 * pulses x + 51 + s.params.nSettle = p + 2 * pulses x + 50 + s.params.nSettle + 1 by omega] at hr ⊢
  have hx : selOf g = some x := selOf_eq_some.mpr hg
  have accept : step s = .next (setgainAccepted s.advance x) :=
    (step_accepts idle hr0 hv hd).trans (exec_setgain_of_supported hx)
  obtain ⟨-, -, din, -⟩ := stepMovesInputsOnAndKeepsParameters _ _ accept
  have hr1 : (setgainAccepted s.advance x).NoRst (p + 2 * pulses x + 50 + s.params.nSettle) :=
    noRst_of_step accept hr
  have hw : (setgainAccepted s.advance x).Waits p :=
    setgainAccepted_waits allowed (fun j hj => (din j).trans (hh j hj)) (State.noRst_mono hr1 (by omega))
  have ready' : (setgainAccepted s.advance x).dinAt p = 0 := (din p).trans ready
  have hs : (setgainAccepted s.advance x).sel ≠ 0 := selOf_ne_zero hx
  have done := ticks_setgainDone rfl hw hs ready' conforms.counts.settle hr1
  have oneMore : v.idleAfter s = v.idle + 1 := idleAfter_of_idleBus (by simp [State.usesBus, idle])
  have accepted : (v.observe s (setgainAccepted s.advance x)).inStep = true :=
    observe_inStep_of_wait hr0 rfl (by rw [oneMore]; exact fun long => used (idleTooLong_mono (by omega) long)) known
  have used' : ¬ s.params.IdleTooLong ((v.observe s (setgainAccepted s.advance x)).idle + p + 1) := by
    rw [observe_idle, oneMore]
    exact fun long => used (idleTooLong_mono (by omega) long)
  have trusted := observeTicks_setgainDone rfl hw hs ready' rfl conforms.frame used' accepted conforms hr1
  refine ⟨_, (ticks_succ accept).trans done, rfl, rfl, rfl, rfl, rfl, ?_⟩
  rw [observeTicks_succ accept]
  exact trusted

end Sys2Proof.Machine
end
